-- ==== Sys2Proof/Word.lean ====
section
/-! DEFINITION. The two word types of the hardware: the 8-bit byte and the 16-bit address or pair value (00_scope R5, R6). -/

namespace Sys2Proof

/-- An 8-bit value: a register, a memory byte, an immediate (10_state R20, 20_memory R60). -/
abbrev Byte := BitVec 8

/-- A 16-bit value: an address, SP, PC, a register pair (10_state R21, R27, R28). -/
abbrev Addr := BitVec 16

end Sys2Proof
end

