-- ==== Sys2Proof/Config.lean ====
section
/-! DEFINITION. The implementation parameters of 00_scope R4 as plain data. Their default values stand in
Machine/Profile.lean. The parameters CART and RAM_INIT are read at reset only and are arguments of State.resetWith. -/

namespace Sys2Proof

/-- The two opcode tables (00_scope R12). -/
inductive Table where
  | primary
  | extended
  deriving DecidableEq, Repr

/-- The parameter INCDEC_H_MODE (40_alu8 R183). -/
inductive IncDecHMode where
  | nibble
  | literal
  deriving DecidableEq, Repr

/-- One value of the function CYCLES (table, opcode, taken) that differs from the default table (41_dispatch R201). -/
structure CycleEntry where
  table : Table
  opcode : Byte
  taken : Bool
  cycles : Nat
  deriving DecidableEq, Repr

/-- The parameters that a step reads (00_scope R4, R10). No step changes one. -/
structure Config where
  /-- BOOT, 256 bytes (10_state R32): the listed cells, every other overlay byte being 0x00. -/
  boot : List Host.Cell
  /-- The primary slots a profile leaves out of MODELED_PRIMARY, beyond those no profile may hold (30_encoding R131). -/
  removedPrimary : List Byte
  /-- The extended slots a profile leaves out of MODELED_EXTENDED (30_encoding R131). -/
  removedExtended : List Byte
  /-- CYCLES, where it differs from the default of 70_reset_and_hazards R395. -/
  cycles : List CycleEntry
  /-- INCDEC_H_MODE (40_alu8 R183). -/
  incDecHMode : IncDecHMode
  /-- IO_WRITE_OK (20_memory R69). -/
  ioWriteOk : List Addr
  /-- IO_READ_OK (20_memory R68). -/
  ioReadOk : List Addr
  /-- LY_ADDR (10_state R35). -/
  lyAddr : Addr
  /-- FRAME_CYCLES (60_exceptions R352). -/
  frameBudget : Nat
  deriving DecidableEq, Repr

end Sys2Proof
end

