-- ==== Sys2Proof/Machine/Bits.lean ====
section
/-! DEFINITION. Bit-field, byte-order and sign-extension helpers (00_scope R5 to R7). -/

namespace Sys2Proof.Machine

/-- `v[15:8]`. -/
def hiByte (v : Addr) : Byte := v.extractLsb' 8 8

/-- `v[7:0]`. -/
def loByte (v : Addr) : Byte := v.extractLsb' 0 8

/-- `hi:lo`, the concatenation of two bytes (00_scope R5). -/
def pair (hi lo : Byte) : Addr := hi ++ lo

/-- `sext_16(v)` (00_scope R7). -/
def sext16 (v : Byte) : Addr := v.signExtend 16

/-- A bit as a byte, 0 or 1. -/
def bitByte (b : Bool) : Byte := if b then 1#8 else 0#8

end Sys2Proof.Machine
end

