-- ==== Sys2Proof/Machine/Names.lean ====
section
/-! DEFINITION. The names that an encoding field selects: the operand tables of 30_encoding R123. -/

namespace Sys2Proof.Machine

/-- The seven registers a register field can name (30_encoding R123). -/
inductive Reg8 where
  | b | c | d | e | h | l | a
  deriving DecidableEq, Repr

/-- `r8[i]`: a register, or the memory byte at HL. -/
inductive Operand8 where
  | reg (r : Reg8)
  | atHL
  deriving DecidableEq, Repr

/-- `r16[i]`. -/
inductive Reg16 where
  | bc | de | hl | sp
  deriving DecidableEq, Repr

/-- `r16stk[i]`. -/
inductive Stk16 where
  | bc | de | hl | af
  deriving DecidableEq, Repr

/-- `r16mem[i]`. -/
inductive Mem16 where
  | atBC | atDE | atHLI | atHLD
  deriving DecidableEq, Repr

/-- `cond[i]`. -/
inductive Cond where
  | nz | z | nc | c
  deriving DecidableEq, Repr

/-- `alu[i]`. -/
inductive AluOp where
  | add | adc | sub | sbc | and | xor | or | cp
  deriving DecidableEq, Repr

/-- `rot[i]`. -/
inductive RotOp where
  | rlc | rrc | rl | rr | sla | sra | swap | srl
  deriving DecidableEq, Repr

/-- `r8[i]` of 30_encoding R123 (the field has 3 bits). -/
def r8 (i : Nat) : Operand8 :=
  match i with
  | 0 => .reg .b
  | 1 => .reg .c
  | 2 => .reg .d
  | 3 => .reg .e
  | 4 => .reg .h
  | 5 => .reg .l
  | 6 => .atHL
  | _ => .reg .a

/-- `r16[i]`. -/
def r16 (i : Nat) : Reg16 :=
  match i with
  | 0 => .bc
  | 1 => .de
  | 2 => .hl
  | _ => .sp

/-- `r16stk[i]`. -/
def r16stk (i : Nat) : Stk16 :=
  match i with
  | 0 => .bc
  | 1 => .de
  | 2 => .hl
  | _ => .af

/-- `r16mem[i]`. -/
def r16mem (i : Nat) : Mem16 :=
  match i with
  | 0 => .atBC
  | 1 => .atDE
  | 2 => .atHLI
  | _ => .atHLD

/-- `cond[i]`. -/
def condOf (i : Nat) : Cond :=
  match i with
  | 0 => .nz
  | 1 => .z
  | 2 => .nc
  | _ => .c

/-- `alu[i]`. -/
def aluOf (i : Nat) : AluOp :=
  match i with
  | 0 => .add
  | 1 => .adc
  | 2 => .sub
  | 3 => .sbc
  | 4 => .and
  | 5 => .xor
  | 6 => .or
  | _ => .cp

/-- `rot[i]`. -/
def rotOf (i : Nat) : RotOp :=
  match i with
  | 0 => .rlc
  | 1 => .rrc
  | 2 => .rl
  | 3 => .rr
  | 4 => .sla
  | 5 => .sra
  | 6 => .swap
  | _ => .srl

/-- The field value of `r8` back from the operand (the inverse of `r8` on 0..7). -/
def Operand8.index (o : Operand8) : Nat :=
  match o with
  | .reg .b => 0
  | .reg .c => 1
  | .reg .d => 2
  | .reg .e => 3
  | .reg .h => 4
  | .reg .l => 5
  | .atHL => 6
  | .reg .a => 7

/-- The field value of `r16`. -/
def Reg16.index (r : Reg16) : Nat :=
  match r with
  | .bc => 0
  | .de => 1
  | .hl => 2
  | .sp => 3

/-- The field value of `r16stk`. -/
def Stk16.index (r : Stk16) : Nat :=
  match r with
  | .bc => 0
  | .de => 1
  | .hl => 2
  | .af => 3

/-- The field value of `r16mem`. -/
def Mem16.index (r : Mem16) : Nat :=
  match r with
  | .atBC => 0
  | .atDE => 1
  | .atHLI => 2
  | .atHLD => 3

/-- The field value of `cond`. -/
def Cond.index (c : Cond) : Nat :=
  match c with
  | .nz => 0
  | .z => 1
  | .nc => 2
  | .c => 3

/-- The field value of `alu`. -/
def AluOp.index (k : AluOp) : Nat :=
  match k with
  | .add => 0
  | .adc => 1
  | .sub => 2
  | .sbc => 3
  | .and => 4
  | .xor => 5
  | .or => 6
  | .cp => 7

/-- The field value of `rot`. -/
def RotOp.index (k : RotOp) : Nat :=
  match k with
  | .rlc => 0
  | .rrc => 1
  | .rl => 2
  | .rr => 3
  | .sla => 4
  | .sra => 5
  | .swap => 6
  | .srl => 7

end Sys2Proof.Machine
end

