-- ==== Sys2Proof/WellFormed.lean ====
section
/-! DEFINITION. Which terms of Instr are whole instructions. Every value of an operand byte is legal (30_encoding R130), so
the one check is that the term is not the lone byte 0xCB, which is only the first byte of an extended instruction (R121). -/

namespace Sys2Proof

/-- A whole instruction or an unimplemented slot: everything but the 0xCB byte alone. -/
def Instr.wellFormed (i : Instr) : Bool :=
  match i with
  | .cbPrefix => false
  | _ => true

end Sys2Proof
end

