-- ==== Sys2Proof/Decode.lean ====
section
/-! DEFINITION. The decoder, by the fields x, y, z, p, q of 30_encoding R122 and the field tables of R128 and R129; after
it the encoder, from the grids of R128 and R129. First the instructions of one shape, by the operand that a field names. -/

namespace Sys2Proof

open Sys2Proof.Machine

/-- `LD r8[y],r8[z]` (43_load8 R250 to R252); both (HL) is the slot 0x76, HALT (41_dispatch R208). -/
def ldForm (x : Operand8) (y : Operand8) : Instr :=
  match x, y with
  | .reg .b, .reg .b => .ld_B_B
  | .reg .b, .reg .c => .ld_B_C
  | .reg .b, .reg .d => .ld_B_D
  | .reg .b, .reg .e => .ld_B_E
  | .reg .b, .reg .h => .ld_B_H
  | .reg .b, .reg .l => .ld_B_L
  | .reg .b, .atHL => .ld_B_atHL
  | .reg .b, .reg .a => .ld_B_A
  | .reg .c, .reg .b => .ld_C_B
  | .reg .c, .reg .c => .ld_C_C
  | .reg .c, .reg .d => .ld_C_D
  | .reg .c, .reg .e => .ld_C_E
  | .reg .c, .reg .h => .ld_C_H
  | .reg .c, .reg .l => .ld_C_L
  | .reg .c, .atHL => .ld_C_atHL
  | .reg .c, .reg .a => .ld_C_A
  | .reg .d, .reg .b => .ld_D_B
  | .reg .d, .reg .c => .ld_D_C
  | .reg .d, .reg .d => .ld_D_D
  | .reg .d, .reg .e => .ld_D_E
  | .reg .d, .reg .h => .ld_D_H
  | .reg .d, .reg .l => .ld_D_L
  | .reg .d, .atHL => .ld_D_atHL
  | .reg .d, .reg .a => .ld_D_A
  | .reg .e, .reg .b => .ld_E_B
  | .reg .e, .reg .c => .ld_E_C
  | .reg .e, .reg .d => .ld_E_D
  | .reg .e, .reg .e => .ld_E_E
  | .reg .e, .reg .h => .ld_E_H
  | .reg .e, .reg .l => .ld_E_L
  | .reg .e, .atHL => .ld_E_atHL
  | .reg .e, .reg .a => .ld_E_A
  | .reg .h, .reg .b => .ld_H_B
  | .reg .h, .reg .c => .ld_H_C
  | .reg .h, .reg .d => .ld_H_D
  | .reg .h, .reg .e => .ld_H_E
  | .reg .h, .reg .h => .ld_H_H
  | .reg .h, .reg .l => .ld_H_L
  | .reg .h, .atHL => .ld_H_atHL
  | .reg .h, .reg .a => .ld_H_A
  | .reg .l, .reg .b => .ld_L_B
  | .reg .l, .reg .c => .ld_L_C
  | .reg .l, .reg .d => .ld_L_D
  | .reg .l, .reg .e => .ld_L_E
  | .reg .l, .reg .h => .ld_L_H
  | .reg .l, .reg .l => .ld_L_L
  | .reg .l, .atHL => .ld_L_atHL
  | .reg .l, .reg .a => .ld_L_A
  | .atHL, .reg .b => .ld_atHL_B
  | .atHL, .reg .c => .ld_atHL_C
  | .atHL, .reg .d => .ld_atHL_D
  | .atHL, .reg .e => .ld_atHL_E
  | .atHL, .reg .h => .ld_atHL_H
  | .atHL, .reg .l => .ld_atHL_L
  | .atHL, .atHL => .halt
  | .atHL, .reg .a => .ld_atHL_A
  | .reg .a, .reg .b => .ld_A_B
  | .reg .a, .reg .c => .ld_A_C
  | .reg .a, .reg .d => .ld_A_D
  | .reg .a, .reg .e => .ld_A_E
  | .reg .a, .reg .h => .ld_A_H
  | .reg .a, .reg .l => .ld_A_L
  | .reg .a, .atHL => .ld_A_atHL
  | .reg .a, .reg .a => .ld_A_A

/-- `alu[y] A,r8[z]` (40_alu8 R155). -/
def aluForm (x : AluOp) (y : Operand8) : Instr :=
  match x, y with
  | .add, .reg .b => .add_B
  | .add, .reg .c => .add_C
  | .add, .reg .d => .add_D
  | .add, .reg .e => .add_E
  | .add, .reg .h => .add_H
  | .add, .reg .l => .add_L
  | .add, .atHL => .add_atHL
  | .add, .reg .a => .add_A
  | .adc, .reg .b => .adc_B
  | .adc, .reg .c => .adc_C
  | .adc, .reg .d => .adc_D
  | .adc, .reg .e => .adc_E
  | .adc, .reg .h => .adc_H
  | .adc, .reg .l => .adc_L
  | .adc, .atHL => .adc_atHL
  | .adc, .reg .a => .adc_A
  | .sub, .reg .b => .sub_B
  | .sub, .reg .c => .sub_C
  | .sub, .reg .d => .sub_D
  | .sub, .reg .e => .sub_E
  | .sub, .reg .h => .sub_H
  | .sub, .reg .l => .sub_L
  | .sub, .atHL => .sub_atHL
  | .sub, .reg .a => .sub_A
  | .sbc, .reg .b => .sbc_B
  | .sbc, .reg .c => .sbc_C
  | .sbc, .reg .d => .sbc_D
  | .sbc, .reg .e => .sbc_E
  | .sbc, .reg .h => .sbc_H
  | .sbc, .reg .l => .sbc_L
  | .sbc, .atHL => .sbc_atHL
  | .sbc, .reg .a => .sbc_A
  | .and, .reg .b => .and_B
  | .and, .reg .c => .and_C
  | .and, .reg .d => .and_D
  | .and, .reg .e => .and_E
  | .and, .reg .h => .and_H
  | .and, .reg .l => .and_L
  | .and, .atHL => .and_atHL
  | .and, .reg .a => .and_A
  | .xor, .reg .b => .xor_B
  | .xor, .reg .c => .xor_C
  | .xor, .reg .d => .xor_D
  | .xor, .reg .e => .xor_E
  | .xor, .reg .h => .xor_H
  | .xor, .reg .l => .xor_L
  | .xor, .atHL => .xor_atHL
  | .xor, .reg .a => .xor_A
  | .or, .reg .b => .or_B
  | .or, .reg .c => .or_C
  | .or, .reg .d => .or_D
  | .or, .reg .e => .or_E
  | .or, .reg .h => .or_H
  | .or, .reg .l => .or_L
  | .or, .atHL => .or_atHL
  | .or, .reg .a => .or_A
  | .cp, .reg .b => .cp_B
  | .cp, .reg .c => .cp_C
  | .cp, .reg .d => .cp_D
  | .cp, .reg .e => .cp_E
  | .cp, .reg .h => .cp_H
  | .cp, .reg .l => .cp_L
  | .cp, .atHL => .cp_atHL
  | .cp, .reg .a => .cp_A

/-- `alu[y] A,n8` (40_alu8 R155). -/
def aluImmForm (x : AluOp) (n8 : Byte) : Instr :=
  match x with
  | .add => .add_n8 n8
  | .adc => .adc_n8 n8
  | .sub => .sub_n8 n8
  | .sbc => .sbc_n8 n8
  | .and => .and_n8 n8
  | .xor => .xor_n8 n8
  | .or => .or_n8 n8
  | .cp => .cp_n8 n8

/-- `INC r8[y]` (40_alu8 R184, R185). -/
def incForm (x : Operand8) : Instr :=
  match x with
  | .reg .b => .inc_B
  | .reg .c => .inc_C
  | .reg .d => .inc_D
  | .reg .e => .inc_E
  | .reg .h => .inc_H
  | .reg .l => .inc_L
  | .atHL => .inc_atHL
  | .reg .a => .inc_A

/-- `DEC r8[y]` (40_alu8 R186, R187). -/
def decForm (x : Operand8) : Instr :=
  match x with
  | .reg .b => .dec_B
  | .reg .c => .dec_C
  | .reg .d => .dec_D
  | .reg .e => .dec_E
  | .reg .h => .dec_H
  | .reg .l => .dec_L
  | .atHL => .dec_atHL
  | .reg .a => .dec_A

/-- `LD r8[y],n8` (43_load8 R253, R254). -/
def ldImmForm (x : Operand8) (n8 : Byte) : Instr :=
  match x with
  | .reg .b => .ld_B_n8 n8
  | .reg .c => .ld_C_n8 n8
  | .reg .d => .ld_D_n8 n8
  | .reg .e => .ld_E_n8 n8
  | .reg .h => .ld_H_n8 n8
  | .reg .l => .ld_L_n8 n8
  | .atHL => .ld_atHL_n8 n8
  | .reg .a => .ld_A_n8 n8

/-- `LD r16[p],n16` (44_load16_arith16 R280). -/
def ld16Form (x : Reg16) (n16 : Addr) : Instr :=
  match x with
  | .bc => .ld_BC_n16 n16
  | .de => .ld_DE_n16 n16
  | .hl => .ld_HL_n16 n16
  | .sp => .ld_SP_n16 n16

/-- `ADD HL,r16[p]` (44_load16_arith16 R286). -/
def addHLForm (x : Reg16) : Instr :=
  match x with
  | .bc => .add_HL_BC
  | .de => .add_HL_DE
  | .hl => .add_HL_HL
  | .sp => .add_HL_SP

/-- `INC r16[p]` (44_load16_arith16 R284). -/
def inc16Form (x : Reg16) : Instr :=
  match x with
  | .bc => .inc_BC
  | .de => .inc_DE
  | .hl => .inc_HL
  | .sp => .inc_SP

/-- `DEC r16[p]` (44_load16_arith16 R285). -/
def dec16Form (x : Reg16) : Instr :=
  match x with
  | .bc => .dec_BC
  | .de => .dec_DE
  | .hl => .dec_HL
  | .sp => .dec_SP

/-- `LD r16mem[p],A` (43_load8 R255, R256, R259, R260). -/
def storeAForm (x : Mem16) : Instr :=
  match x with
  | .atBC => .ld_atBC_A
  | .atDE => .ld_atDE_A
  | .atHLI => .ld_atHLI_A
  | .atHLD => .ld_atHLD_A

/-- `LD A,r16mem[p]` (43_load8 R257, R258, R261, R266). -/
def loadAForm (x : Mem16) : Instr :=
  match x with
  | .atBC => .ld_A_atBC
  | .atDE => .ld_A_atDE
  | .atHLI => .ld_A_atHLI
  | .atHLD => .ld_A_atHLD

/-- `PUSH r16stk[p]` (42_control_stack R223, R225). -/
def pushForm (x : Stk16) : Instr :=
  match x with
  | .bc => .push_BC
  | .de => .push_DE
  | .hl => .push_HL
  | .af => .push_AF

/-- `POP r16stk[p]` (42_control_stack R227, R229). -/
def popForm (x : Stk16) : Instr :=
  match x with
  | .bc => .pop_BC
  | .de => .pop_DE
  | .hl => .pop_HL
  | .af => .pop_AF

/-- `JR cond,e8` (42_control_stack R231). -/
def jrForm (x : Cond) (e8 : Byte) : Instr :=
  match x with
  | .nz => .jr_NZ_e8 e8
  | .z => .jr_Z_e8 e8
  | .nc => .jr_NC_e8 e8
  | .c => .jr_C_e8 e8

/-- `JP cond,n16` (42_control_stack R233). -/
def jpForm (x : Cond) (n16 : Addr) : Instr :=
  match x with
  | .nz => .jp_NZ_n16 n16
  | .z => .jp_Z_n16 n16
  | .nc => .jp_NC_n16 n16
  | .c => .jp_C_n16 n16

/-- `CALL cond,n16` (42_control_stack R236). -/
def callForm (x : Cond) (n16 : Addr) : Instr :=
  match x with
  | .nz => .call_NZ_n16 n16
  | .z => .call_Z_n16 n16
  | .nc => .call_NC_n16 n16
  | .c => .call_C_n16 n16

/-- `RET cond` (42_control_stack R238). -/
def retForm (x : Cond) : Instr :=
  match x with
  | .nz => .ret_NZ
  | .z => .ret_Z
  | .nc => .ret_NC
  | .c => .ret_C

/-- `RST 8*y` (42_control_stack R240); y has 3 bits. -/
def rstForm (x : Nat) : Instr :=
  match x with
  | 0 => .rst_00
  | 1 => .rst_08
  | 2 => .rst_10
  | 3 => .rst_18
  | 4 => .rst_20
  | 5 => .rst_28
  | 6 => .rst_30
  | _ => .rst_38

/-- The eight one-byte instructions on A and F (45_rotate_bit R300 to R303, 40_alu8 R188 to R191). -/
def accForm (x : Nat) : Instr :=
  match x with
  | 0 => .rlca
  | 1 => .rrca
  | 2 => .rla
  | 3 => .rra
  | 4 => .daa
  | 5 => .cpl
  | 6 => .scf
  | _ => .ccf

/-- `rot[y] r8[z]` of the extended table (45_rotate_bit R305 to R312). -/
def rotForm (x : RotOp) (y : Operand8) : Instr :=
  match x, y with
  | .rlc, .reg .b => .rlc_B
  | .rlc, .reg .c => .rlc_C
  | .rlc, .reg .d => .rlc_D
  | .rlc, .reg .e => .rlc_E
  | .rlc, .reg .h => .rlc_H
  | .rlc, .reg .l => .rlc_L
  | .rlc, .atHL => .rlc_atHL
  | .rlc, .reg .a => .rlc_A
  | .rrc, .reg .b => .rrc_B
  | .rrc, .reg .c => .rrc_C
  | .rrc, .reg .d => .rrc_D
  | .rrc, .reg .e => .rrc_E
  | .rrc, .reg .h => .rrc_H
  | .rrc, .reg .l => .rrc_L
  | .rrc, .atHL => .rrc_atHL
  | .rrc, .reg .a => .rrc_A
  | .rl, .reg .b => .rl_B
  | .rl, .reg .c => .rl_C
  | .rl, .reg .d => .rl_D
  | .rl, .reg .e => .rl_E
  | .rl, .reg .h => .rl_H
  | .rl, .reg .l => .rl_L
  | .rl, .atHL => .rl_atHL
  | .rl, .reg .a => .rl_A
  | .rr, .reg .b => .rr_B
  | .rr, .reg .c => .rr_C
  | .rr, .reg .d => .rr_D
  | .rr, .reg .e => .rr_E
  | .rr, .reg .h => .rr_H
  | .rr, .reg .l => .rr_L
  | .rr, .atHL => .rr_atHL
  | .rr, .reg .a => .rr_A
  | .sla, .reg .b => .sla_B
  | .sla, .reg .c => .sla_C
  | .sla, .reg .d => .sla_D
  | .sla, .reg .e => .sla_E
  | .sla, .reg .h => .sla_H
  | .sla, .reg .l => .sla_L
  | .sla, .atHL => .sla_atHL
  | .sla, .reg .a => .sla_A
  | .sra, .reg .b => .sra_B
  | .sra, .reg .c => .sra_C
  | .sra, .reg .d => .sra_D
  | .sra, .reg .e => .sra_E
  | .sra, .reg .h => .sra_H
  | .sra, .reg .l => .sra_L
  | .sra, .atHL => .sra_atHL
  | .sra, .reg .a => .sra_A
  | .swap, .reg .b => .swap_B
  | .swap, .reg .c => .swap_C
  | .swap, .reg .d => .swap_D
  | .swap, .reg .e => .swap_E
  | .swap, .reg .h => .swap_H
  | .swap, .reg .l => .swap_L
  | .swap, .atHL => .swap_atHL
  | .swap, .reg .a => .swap_A
  | .srl, .reg .b => .srl_B
  | .srl, .reg .c => .srl_C
  | .srl, .reg .d => .srl_D
  | .srl, .reg .e => .srl_E
  | .srl, .reg .h => .srl_H
  | .srl, .reg .l => .srl_L
  | .srl, .atHL => .srl_atHL
  | .srl, .reg .a => .srl_A

/-- `BIT b,r8[z]` (45_rotate_bit R313); b has 3 bits. -/
def bitForm (b : Nat) (o : Operand8) : Instr :=
  match b, o with
  | 0, .reg .b => .bit_0_B
  | 0, .reg .c => .bit_0_C
  | 0, .reg .d => .bit_0_D
  | 0, .reg .e => .bit_0_E
  | 0, .reg .h => .bit_0_H
  | 0, .reg .l => .bit_0_L
  | 0, .atHL => .bit_0_atHL
  | 0, .reg .a => .bit_0_A
  | 1, .reg .b => .bit_1_B
  | 1, .reg .c => .bit_1_C
  | 1, .reg .d => .bit_1_D
  | 1, .reg .e => .bit_1_E
  | 1, .reg .h => .bit_1_H
  | 1, .reg .l => .bit_1_L
  | 1, .atHL => .bit_1_atHL
  | 1, .reg .a => .bit_1_A
  | 2, .reg .b => .bit_2_B
  | 2, .reg .c => .bit_2_C
  | 2, .reg .d => .bit_2_D
  | 2, .reg .e => .bit_2_E
  | 2, .reg .h => .bit_2_H
  | 2, .reg .l => .bit_2_L
  | 2, .atHL => .bit_2_atHL
  | 2, .reg .a => .bit_2_A
  | 3, .reg .b => .bit_3_B
  | 3, .reg .c => .bit_3_C
  | 3, .reg .d => .bit_3_D
  | 3, .reg .e => .bit_3_E
  | 3, .reg .h => .bit_3_H
  | 3, .reg .l => .bit_3_L
  | 3, .atHL => .bit_3_atHL
  | 3, .reg .a => .bit_3_A
  | 4, .reg .b => .bit_4_B
  | 4, .reg .c => .bit_4_C
  | 4, .reg .d => .bit_4_D
  | 4, .reg .e => .bit_4_E
  | 4, .reg .h => .bit_4_H
  | 4, .reg .l => .bit_4_L
  | 4, .atHL => .bit_4_atHL
  | 4, .reg .a => .bit_4_A
  | 5, .reg .b => .bit_5_B
  | 5, .reg .c => .bit_5_C
  | 5, .reg .d => .bit_5_D
  | 5, .reg .e => .bit_5_E
  | 5, .reg .h => .bit_5_H
  | 5, .reg .l => .bit_5_L
  | 5, .atHL => .bit_5_atHL
  | 5, .reg .a => .bit_5_A
  | 6, .reg .b => .bit_6_B
  | 6, .reg .c => .bit_6_C
  | 6, .reg .d => .bit_6_D
  | 6, .reg .e => .bit_6_E
  | 6, .reg .h => .bit_6_H
  | 6, .reg .l => .bit_6_L
  | 6, .atHL => .bit_6_atHL
  | 6, .reg .a => .bit_6_A
  | _, .reg .b => .bit_7_B
  | _, .reg .c => .bit_7_C
  | _, .reg .d => .bit_7_D
  | _, .reg .e => .bit_7_E
  | _, .reg .h => .bit_7_H
  | _, .reg .l => .bit_7_L
  | _, .atHL => .bit_7_atHL
  | _, .reg .a => .bit_7_A

/-- `RES b,r8[z]` (45_rotate_bit R314); b has 3 bits. -/
def resForm (b : Nat) (o : Operand8) : Instr :=
  match b, o with
  | 0, .reg .b => .res_0_B
  | 0, .reg .c => .res_0_C
  | 0, .reg .d => .res_0_D
  | 0, .reg .e => .res_0_E
  | 0, .reg .h => .res_0_H
  | 0, .reg .l => .res_0_L
  | 0, .atHL => .res_0_atHL
  | 0, .reg .a => .res_0_A
  | 1, .reg .b => .res_1_B
  | 1, .reg .c => .res_1_C
  | 1, .reg .d => .res_1_D
  | 1, .reg .e => .res_1_E
  | 1, .reg .h => .res_1_H
  | 1, .reg .l => .res_1_L
  | 1, .atHL => .res_1_atHL
  | 1, .reg .a => .res_1_A
  | 2, .reg .b => .res_2_B
  | 2, .reg .c => .res_2_C
  | 2, .reg .d => .res_2_D
  | 2, .reg .e => .res_2_E
  | 2, .reg .h => .res_2_H
  | 2, .reg .l => .res_2_L
  | 2, .atHL => .res_2_atHL
  | 2, .reg .a => .res_2_A
  | 3, .reg .b => .res_3_B
  | 3, .reg .c => .res_3_C
  | 3, .reg .d => .res_3_D
  | 3, .reg .e => .res_3_E
  | 3, .reg .h => .res_3_H
  | 3, .reg .l => .res_3_L
  | 3, .atHL => .res_3_atHL
  | 3, .reg .a => .res_3_A
  | 4, .reg .b => .res_4_B
  | 4, .reg .c => .res_4_C
  | 4, .reg .d => .res_4_D
  | 4, .reg .e => .res_4_E
  | 4, .reg .h => .res_4_H
  | 4, .reg .l => .res_4_L
  | 4, .atHL => .res_4_atHL
  | 4, .reg .a => .res_4_A
  | 5, .reg .b => .res_5_B
  | 5, .reg .c => .res_5_C
  | 5, .reg .d => .res_5_D
  | 5, .reg .e => .res_5_E
  | 5, .reg .h => .res_5_H
  | 5, .reg .l => .res_5_L
  | 5, .atHL => .res_5_atHL
  | 5, .reg .a => .res_5_A
  | 6, .reg .b => .res_6_B
  | 6, .reg .c => .res_6_C
  | 6, .reg .d => .res_6_D
  | 6, .reg .e => .res_6_E
  | 6, .reg .h => .res_6_H
  | 6, .reg .l => .res_6_L
  | 6, .atHL => .res_6_atHL
  | 6, .reg .a => .res_6_A
  | _, .reg .b => .res_7_B
  | _, .reg .c => .res_7_C
  | _, .reg .d => .res_7_D
  | _, .reg .e => .res_7_E
  | _, .reg .h => .res_7_H
  | _, .reg .l => .res_7_L
  | _, .atHL => .res_7_atHL
  | _, .reg .a => .res_7_A

/-- `SET b,r8[z]` (45_rotate_bit R315); b has 3 bits. -/
def setForm (b : Nat) (o : Operand8) : Instr :=
  match b, o with
  | 0, .reg .b => .set_0_B
  | 0, .reg .c => .set_0_C
  | 0, .reg .d => .set_0_D
  | 0, .reg .e => .set_0_E
  | 0, .reg .h => .set_0_H
  | 0, .reg .l => .set_0_L
  | 0, .atHL => .set_0_atHL
  | 0, .reg .a => .set_0_A
  | 1, .reg .b => .set_1_B
  | 1, .reg .c => .set_1_C
  | 1, .reg .d => .set_1_D
  | 1, .reg .e => .set_1_E
  | 1, .reg .h => .set_1_H
  | 1, .reg .l => .set_1_L
  | 1, .atHL => .set_1_atHL
  | 1, .reg .a => .set_1_A
  | 2, .reg .b => .set_2_B
  | 2, .reg .c => .set_2_C
  | 2, .reg .d => .set_2_D
  | 2, .reg .e => .set_2_E
  | 2, .reg .h => .set_2_H
  | 2, .reg .l => .set_2_L
  | 2, .atHL => .set_2_atHL
  | 2, .reg .a => .set_2_A
  | 3, .reg .b => .set_3_B
  | 3, .reg .c => .set_3_C
  | 3, .reg .d => .set_3_D
  | 3, .reg .e => .set_3_E
  | 3, .reg .h => .set_3_H
  | 3, .reg .l => .set_3_L
  | 3, .atHL => .set_3_atHL
  | 3, .reg .a => .set_3_A
  | 4, .reg .b => .set_4_B
  | 4, .reg .c => .set_4_C
  | 4, .reg .d => .set_4_D
  | 4, .reg .e => .set_4_E
  | 4, .reg .h => .set_4_H
  | 4, .reg .l => .set_4_L
  | 4, .atHL => .set_4_atHL
  | 4, .reg .a => .set_4_A
  | 5, .reg .b => .set_5_B
  | 5, .reg .c => .set_5_C
  | 5, .reg .d => .set_5_D
  | 5, .reg .e => .set_5_E
  | 5, .reg .h => .set_5_H
  | 5, .reg .l => .set_5_L
  | 5, .atHL => .set_5_atHL
  | 5, .reg .a => .set_5_A
  | 6, .reg .b => .set_6_B
  | 6, .reg .c => .set_6_C
  | 6, .reg .d => .set_6_D
  | 6, .reg .e => .set_6_E
  | 6, .reg .h => .set_6_H
  | 6, .reg .l => .set_6_L
  | 6, .atHL => .set_6_atHL
  | 6, .reg .a => .set_6_A
  | _, .reg .b => .set_7_B
  | _, .reg .c => .set_7_C
  | _, .reg .d => .set_7_D
  | _, .reg .e => .set_7_E
  | _, .reg .h => .set_7_H
  | _, .reg .l => .set_7_L
  | _, .atHL => .set_7_atHL
  | _, .reg .a => .set_7_A

/-- Block x = 0 of the primary table (30_encoding R128). -/
def decodeBlock0 (y z : Nat) (n8 : Byte) (n16 : Addr) : Instr :=
  match z with
  | 0 =>
    match y with
    | 0 => .nop
    | 1 => .ld_atN16_SP n16
    | 2 => .stop
    | 3 => .jr_e8 n8
    | _ => jrForm (condOf (y - 4)) n8
  | 1 => if y % 2 = 0 then ld16Form (r16 (y / 2)) n16 else addHLForm (r16 (y / 2))
  | 2 => if y % 2 = 0 then storeAForm (r16mem (y / 2)) else loadAForm (r16mem (y / 2))
  | 3 => if y % 2 = 0 then inc16Form (r16 (y / 2)) else dec16Form (r16 (y / 2))
  | 4 => incForm (r8 y)
  | 5 => decForm (r8 y)
  | 6 => ldImmForm (r8 y) n8
  | _ => accForm y

/-- Block x = 3 of the primary table (30_encoding R128, R130). -/
def decodeBlock3 (y z : Nat) (n8 : Byte) (n16 : Addr) : Instr :=
  match z with
  | 0 =>
    match y with
    | 4 => .ldh_atN8_A n8
    | 5 => .add_SP_e8 n8
    | 6 => .ldh_A_atN8 n8
    | 7 => .ld_HL_SPe8 n8
    | _ => retForm (condOf y)
  | 1 =>
    match y with
    | 1 => .ret
    | 3 => .reti
    | 5 => .jp_HL
    | 7 => .ld_SP_HL
    | _ => popForm (r16stk (y / 2))
  | 2 =>
    match y with
    | 4 => .ld_atC_A
    | 5 => .ld_atN16_A n16
    | 6 => .ld_A_atC
    | 7 => .ld_A_atN16 n16
    | _ => jpForm (condOf y) n16
  | 3 =>
    match y with
    | 0 => .jp_n16 n16
    | 1 => .cbPrefix
    | 2 => .unimpl_D3
    | 3 => .unimpl_DB
    | 4 => .unimpl_E3
    | 5 => .unimpl_EB
    | 6 => .di
    | _ => .ei
  | 4 =>
    match y with
    | 4 => .unimpl_E4
    | 5 => .unimpl_EC
    | 6 => .unimpl_F4
    | 7 => .unimpl_FC
    | _ => callForm (condOf y) n16
  | 5 =>
    match y with
    | 1 => .call_n16 n16
    | 3 => .unimpl_DD
    | 5 => .unimpl_ED
    | 7 => .unimpl_FD
    | _ => pushForm (r16stk (y / 2))
  | 6 => aluImmForm (aluOf y) n8
  | _ => rstForm y

/-- The primary slot of an opcode byte, with the two bytes after it where the format has them (30_encoding R120, R121,
R128). A one-byte operand is the first of them; a 16-bit operand takes them low byte first (R125). -/
def decodePrimary (op b1 b2 : Byte) : Instr :=
  let y := op.toNat / 8 % 8
  let z := op.toNat % 8
  match op.toNat / 64 with
  | 0 => decodeBlock0 y z b1 (pair b2 b1)
  | 1 => ldForm (r8 y) (r8 z)
  | 2 => aluForm (aluOf y) (r8 z)
  | _ => decodeBlock3 y z b1 (pair b2 b1)

/-- The extended slot of the byte after 0xCB (30_encoding R127, R129). -/
def decodeExtended (ext : Byte) : Instr :=
  let y := ext.toNat / 8 % 8
  let o := r8 (ext.toNat % 8)
  match ext.toNat / 64 with
  | 0 => rotForm (rotOf y) o
  | 1 => bitForm y o
  | 2 => resForm y o
  | _ => setForm y o

/-- How many operand bytes follow a primary opcode byte (30_encoding R121, R128), read from its fields. -/
def operandCount (op : Byte) : Nat :=
  let y := op.toNat / 8 % 8
  let z := op.toNat % 8
  match op.toNat / 64 with
  | 0 =>
    match z with
    | 0 => if y = 1 then 2 else if 3 ≤ y then 1 else 0
    | 1 => if y % 2 = 0 then 2 else 0
    | 6 => 1
    | _ => 0
  | 3 =>
    match z with
    | 0 => if 4 ≤ y then 1 else 0
    | 2 => if y = 4 ∨ y = 6 then 0 else 2
    | 3 => if y = 0 then 2 else 0
    | 4 => if y < 4 then 2 else 0
    | 5 => if y = 1 then 2 else 0
    | 6 => 1
    | _ => 0
  | _ => 0

/-- The length of an instruction from its first byte alone (30_encoding R120, R127). -/
def instrLength (op : Byte) : Nat := if op = 0xCB#8 then 2 else 1 + operandCount op

/-- Why a list of bytes is no instruction. -/
inductive DecodeError where
  /-- There is no byte. -/
  | noByte
  /-- The list ends before the instruction's operand bytes do. -/
  | missingOperand
  deriving DecidableEq, Repr

/-- Read one instruction from the front of a list of bytes and give the bytes after it. The byte 0xCB with nothing after
it is the slot 0xCB alone (30_encoding R121; log 10). -/
def decode (bytes : List Byte) : Except DecodeError (Instr × List Byte) :=
  match bytes with
  | [] => .error .noByte
  | op :: rest =>
    if op = 0xCB#8 then
      match rest with
      | [] => .ok (.cbPrefix, [])
      | ext :: after => .ok (decodeExtended ext, after)
    else
      match operandCount op, rest with
      | 0, after => .ok (decodePrimary op 0#8 0#8, after)
      | 1, b1 :: after => .ok (decodePrimary op b1 0#8, after)
      | 2, b1 :: b2 :: after => .ok (decodePrimary op b1 b2, after)
      | _, _ => .error .missingOperand

/-- The bytes of an instruction, in ascending address order (30_encoding R121, R128, R129). -/
def encode (i : Instr) : List Byte :=
  match i with
  | .nop => [0x00#8]
  | .ld_BC_n16 n16 => [0x01#8, loByte n16, hiByte n16]
  | .ld_atBC_A => [0x02#8]
  | .inc_BC => [0x03#8]
  | .inc_B => [0x04#8]
  | .dec_B => [0x05#8]
  | .ld_B_n8 n8 => [0x06#8, n8]
  | .rlca => [0x07#8]
  | .ld_atN16_SP n16 => [0x08#8, loByte n16, hiByte n16]
  | .add_HL_BC => [0x09#8]
  | .ld_A_atBC => [0x0A#8]
  | .dec_BC => [0x0B#8]
  | .inc_C => [0x0C#8]
  | .dec_C => [0x0D#8]
  | .ld_C_n8 n8 => [0x0E#8, n8]
  | .rrca => [0x0F#8]
  | .stop => [0x10#8]
  | .ld_DE_n16 n16 => [0x11#8, loByte n16, hiByte n16]
  | .ld_atDE_A => [0x12#8]
  | .inc_DE => [0x13#8]
  | .inc_D => [0x14#8]
  | .dec_D => [0x15#8]
  | .ld_D_n8 n8 => [0x16#8, n8]
  | .rla => [0x17#8]
  | .jr_e8 e8 => [0x18#8, e8]
  | .add_HL_DE => [0x19#8]
  | .ld_A_atDE => [0x1A#8]
  | .dec_DE => [0x1B#8]
  | .inc_E => [0x1C#8]
  | .dec_E => [0x1D#8]
  | .ld_E_n8 n8 => [0x1E#8, n8]
  | .rra => [0x1F#8]
  | .jr_NZ_e8 e8 => [0x20#8, e8]
  | .ld_HL_n16 n16 => [0x21#8, loByte n16, hiByte n16]
  | .ld_atHLI_A => [0x22#8]
  | .inc_HL => [0x23#8]
  | .inc_H => [0x24#8]
  | .dec_H => [0x25#8]
  | .ld_H_n8 n8 => [0x26#8, n8]
  | .daa => [0x27#8]
  | .jr_Z_e8 e8 => [0x28#8, e8]
  | .add_HL_HL => [0x29#8]
  | .ld_A_atHLI => [0x2A#8]
  | .dec_HL => [0x2B#8]
  | .inc_L => [0x2C#8]
  | .dec_L => [0x2D#8]
  | .ld_L_n8 n8 => [0x2E#8, n8]
  | .cpl => [0x2F#8]
  | .jr_NC_e8 e8 => [0x30#8, e8]
  | .ld_SP_n16 n16 => [0x31#8, loByte n16, hiByte n16]
  | .ld_atHLD_A => [0x32#8]
  | .inc_SP => [0x33#8]
  | .inc_atHL => [0x34#8]
  | .dec_atHL => [0x35#8]
  | .ld_atHL_n8 n8 => [0x36#8, n8]
  | .scf => [0x37#8]
  | .jr_C_e8 e8 => [0x38#8, e8]
  | .add_HL_SP => [0x39#8]
  | .ld_A_atHLD => [0x3A#8]
  | .dec_SP => [0x3B#8]
  | .inc_A => [0x3C#8]
  | .dec_A => [0x3D#8]
  | .ld_A_n8 n8 => [0x3E#8, n8]
  | .ccf => [0x3F#8]
  | .ld_B_B => [0x40#8]
  | .ld_B_C => [0x41#8]
  | .ld_B_D => [0x42#8]
  | .ld_B_E => [0x43#8]
  | .ld_B_H => [0x44#8]
  | .ld_B_L => [0x45#8]
  | .ld_B_atHL => [0x46#8]
  | .ld_B_A => [0x47#8]
  | .ld_C_B => [0x48#8]
  | .ld_C_C => [0x49#8]
  | .ld_C_D => [0x4A#8]
  | .ld_C_E => [0x4B#8]
  | .ld_C_H => [0x4C#8]
  | .ld_C_L => [0x4D#8]
  | .ld_C_atHL => [0x4E#8]
  | .ld_C_A => [0x4F#8]
  | .ld_D_B => [0x50#8]
  | .ld_D_C => [0x51#8]
  | .ld_D_D => [0x52#8]
  | .ld_D_E => [0x53#8]
  | .ld_D_H => [0x54#8]
  | .ld_D_L => [0x55#8]
  | .ld_D_atHL => [0x56#8]
  | .ld_D_A => [0x57#8]
  | .ld_E_B => [0x58#8]
  | .ld_E_C => [0x59#8]
  | .ld_E_D => [0x5A#8]
  | .ld_E_E => [0x5B#8]
  | .ld_E_H => [0x5C#8]
  | .ld_E_L => [0x5D#8]
  | .ld_E_atHL => [0x5E#8]
  | .ld_E_A => [0x5F#8]
  | .ld_H_B => [0x60#8]
  | .ld_H_C => [0x61#8]
  | .ld_H_D => [0x62#8]
  | .ld_H_E => [0x63#8]
  | .ld_H_H => [0x64#8]
  | .ld_H_L => [0x65#8]
  | .ld_H_atHL => [0x66#8]
  | .ld_H_A => [0x67#8]
  | .ld_L_B => [0x68#8]
  | .ld_L_C => [0x69#8]
  | .ld_L_D => [0x6A#8]
  | .ld_L_E => [0x6B#8]
  | .ld_L_H => [0x6C#8]
  | .ld_L_L => [0x6D#8]
  | .ld_L_atHL => [0x6E#8]
  | .ld_L_A => [0x6F#8]
  | .ld_atHL_B => [0x70#8]
  | .ld_atHL_C => [0x71#8]
  | .ld_atHL_D => [0x72#8]
  | .ld_atHL_E => [0x73#8]
  | .ld_atHL_H => [0x74#8]
  | .ld_atHL_L => [0x75#8]
  | .halt => [0x76#8]
  | .ld_atHL_A => [0x77#8]
  | .ld_A_B => [0x78#8]
  | .ld_A_C => [0x79#8]
  | .ld_A_D => [0x7A#8]
  | .ld_A_E => [0x7B#8]
  | .ld_A_H => [0x7C#8]
  | .ld_A_L => [0x7D#8]
  | .ld_A_atHL => [0x7E#8]
  | .ld_A_A => [0x7F#8]
  | .add_B => [0x80#8]
  | .add_C => [0x81#8]
  | .add_D => [0x82#8]
  | .add_E => [0x83#8]
  | .add_H => [0x84#8]
  | .add_L => [0x85#8]
  | .add_atHL => [0x86#8]
  | .add_A => [0x87#8]
  | .adc_B => [0x88#8]
  | .adc_C => [0x89#8]
  | .adc_D => [0x8A#8]
  | .adc_E => [0x8B#8]
  | .adc_H => [0x8C#8]
  | .adc_L => [0x8D#8]
  | .adc_atHL => [0x8E#8]
  | .adc_A => [0x8F#8]
  | .sub_B => [0x90#8]
  | .sub_C => [0x91#8]
  | .sub_D => [0x92#8]
  | .sub_E => [0x93#8]
  | .sub_H => [0x94#8]
  | .sub_L => [0x95#8]
  | .sub_atHL => [0x96#8]
  | .sub_A => [0x97#8]
  | .sbc_B => [0x98#8]
  | .sbc_C => [0x99#8]
  | .sbc_D => [0x9A#8]
  | .sbc_E => [0x9B#8]
  | .sbc_H => [0x9C#8]
  | .sbc_L => [0x9D#8]
  | .sbc_atHL => [0x9E#8]
  | .sbc_A => [0x9F#8]
  | .and_B => [0xA0#8]
  | .and_C => [0xA1#8]
  | .and_D => [0xA2#8]
  | .and_E => [0xA3#8]
  | .and_H => [0xA4#8]
  | .and_L => [0xA5#8]
  | .and_atHL => [0xA6#8]
  | .and_A => [0xA7#8]
  | .xor_B => [0xA8#8]
  | .xor_C => [0xA9#8]
  | .xor_D => [0xAA#8]
  | .xor_E => [0xAB#8]
  | .xor_H => [0xAC#8]
  | .xor_L => [0xAD#8]
  | .xor_atHL => [0xAE#8]
  | .xor_A => [0xAF#8]
  | .or_B => [0xB0#8]
  | .or_C => [0xB1#8]
  | .or_D => [0xB2#8]
  | .or_E => [0xB3#8]
  | .or_H => [0xB4#8]
  | .or_L => [0xB5#8]
  | .or_atHL => [0xB6#8]
  | .or_A => [0xB7#8]
  | .cp_B => [0xB8#8]
  | .cp_C => [0xB9#8]
  | .cp_D => [0xBA#8]
  | .cp_E => [0xBB#8]
  | .cp_H => [0xBC#8]
  | .cp_L => [0xBD#8]
  | .cp_atHL => [0xBE#8]
  | .cp_A => [0xBF#8]
  | .ret_NZ => [0xC0#8]
  | .pop_BC => [0xC1#8]
  | .jp_NZ_n16 n16 => [0xC2#8, loByte n16, hiByte n16]
  | .jp_n16 n16 => [0xC3#8, loByte n16, hiByte n16]
  | .call_NZ_n16 n16 => [0xC4#8, loByte n16, hiByte n16]
  | .push_BC => [0xC5#8]
  | .add_n8 n8 => [0xC6#8, n8]
  | .rst_00 => [0xC7#8]
  | .ret_Z => [0xC8#8]
  | .ret => [0xC9#8]
  | .jp_Z_n16 n16 => [0xCA#8, loByte n16, hiByte n16]
  | .cbPrefix => [0xCB#8]
  | .call_Z_n16 n16 => [0xCC#8, loByte n16, hiByte n16]
  | .call_n16 n16 => [0xCD#8, loByte n16, hiByte n16]
  | .adc_n8 n8 => [0xCE#8, n8]
  | .rst_08 => [0xCF#8]
  | .ret_NC => [0xD0#8]
  | .pop_DE => [0xD1#8]
  | .jp_NC_n16 n16 => [0xD2#8, loByte n16, hiByte n16]
  | .unimpl_D3 => [0xD3#8]
  | .call_NC_n16 n16 => [0xD4#8, loByte n16, hiByte n16]
  | .push_DE => [0xD5#8]
  | .sub_n8 n8 => [0xD6#8, n8]
  | .rst_10 => [0xD7#8]
  | .ret_C => [0xD8#8]
  | .reti => [0xD9#8]
  | .jp_C_n16 n16 => [0xDA#8, loByte n16, hiByte n16]
  | .unimpl_DB => [0xDB#8]
  | .call_C_n16 n16 => [0xDC#8, loByte n16, hiByte n16]
  | .unimpl_DD => [0xDD#8]
  | .sbc_n8 n8 => [0xDE#8, n8]
  | .rst_18 => [0xDF#8]
  | .ldh_atN8_A n8 => [0xE0#8, n8]
  | .pop_HL => [0xE1#8]
  | .ld_atC_A => [0xE2#8]
  | .unimpl_E3 => [0xE3#8]
  | .unimpl_E4 => [0xE4#8]
  | .push_HL => [0xE5#8]
  | .and_n8 n8 => [0xE6#8, n8]
  | .rst_20 => [0xE7#8]
  | .add_SP_e8 e8 => [0xE8#8, e8]
  | .jp_HL => [0xE9#8]
  | .ld_atN16_A n16 => [0xEA#8, loByte n16, hiByte n16]
  | .unimpl_EB => [0xEB#8]
  | .unimpl_EC => [0xEC#8]
  | .unimpl_ED => [0xED#8]
  | .xor_n8 n8 => [0xEE#8, n8]
  | .rst_28 => [0xEF#8]
  | .ldh_A_atN8 n8 => [0xF0#8, n8]
  | .pop_AF => [0xF1#8]
  | .ld_A_atC => [0xF2#8]
  | .di => [0xF3#8]
  | .unimpl_F4 => [0xF4#8]
  | .push_AF => [0xF5#8]
  | .or_n8 n8 => [0xF6#8, n8]
  | .rst_30 => [0xF7#8]
  | .ld_HL_SPe8 e8 => [0xF8#8, e8]
  | .ld_SP_HL => [0xF9#8]
  | .ld_A_atN16 n16 => [0xFA#8, loByte n16, hiByte n16]
  | .ei => [0xFB#8]
  | .unimpl_FC => [0xFC#8]
  | .unimpl_FD => [0xFD#8]
  | .cp_n8 n8 => [0xFE#8, n8]
  | .rst_38 => [0xFF#8]
  | .rlc_B => [0xCB#8, 0x00#8]
  | .rlc_C => [0xCB#8, 0x01#8]
  | .rlc_D => [0xCB#8, 0x02#8]
  | .rlc_E => [0xCB#8, 0x03#8]
  | .rlc_H => [0xCB#8, 0x04#8]
  | .rlc_L => [0xCB#8, 0x05#8]
  | .rlc_atHL => [0xCB#8, 0x06#8]
  | .rlc_A => [0xCB#8, 0x07#8]
  | .rrc_B => [0xCB#8, 0x08#8]
  | .rrc_C => [0xCB#8, 0x09#8]
  | .rrc_D => [0xCB#8, 0x0A#8]
  | .rrc_E => [0xCB#8, 0x0B#8]
  | .rrc_H => [0xCB#8, 0x0C#8]
  | .rrc_L => [0xCB#8, 0x0D#8]
  | .rrc_atHL => [0xCB#8, 0x0E#8]
  | .rrc_A => [0xCB#8, 0x0F#8]
  | .rl_B => [0xCB#8, 0x10#8]
  | .rl_C => [0xCB#8, 0x11#8]
  | .rl_D => [0xCB#8, 0x12#8]
  | .rl_E => [0xCB#8, 0x13#8]
  | .rl_H => [0xCB#8, 0x14#8]
  | .rl_L => [0xCB#8, 0x15#8]
  | .rl_atHL => [0xCB#8, 0x16#8]
  | .rl_A => [0xCB#8, 0x17#8]
  | .rr_B => [0xCB#8, 0x18#8]
  | .rr_C => [0xCB#8, 0x19#8]
  | .rr_D => [0xCB#8, 0x1A#8]
  | .rr_E => [0xCB#8, 0x1B#8]
  | .rr_H => [0xCB#8, 0x1C#8]
  | .rr_L => [0xCB#8, 0x1D#8]
  | .rr_atHL => [0xCB#8, 0x1E#8]
  | .rr_A => [0xCB#8, 0x1F#8]
  | .sla_B => [0xCB#8, 0x20#8]
  | .sla_C => [0xCB#8, 0x21#8]
  | .sla_D => [0xCB#8, 0x22#8]
  | .sla_E => [0xCB#8, 0x23#8]
  | .sla_H => [0xCB#8, 0x24#8]
  | .sla_L => [0xCB#8, 0x25#8]
  | .sla_atHL => [0xCB#8, 0x26#8]
  | .sla_A => [0xCB#8, 0x27#8]
  | .sra_B => [0xCB#8, 0x28#8]
  | .sra_C => [0xCB#8, 0x29#8]
  | .sra_D => [0xCB#8, 0x2A#8]
  | .sra_E => [0xCB#8, 0x2B#8]
  | .sra_H => [0xCB#8, 0x2C#8]
  | .sra_L => [0xCB#8, 0x2D#8]
  | .sra_atHL => [0xCB#8, 0x2E#8]
  | .sra_A => [0xCB#8, 0x2F#8]
  | .swap_B => [0xCB#8, 0x30#8]
  | .swap_C => [0xCB#8, 0x31#8]
  | .swap_D => [0xCB#8, 0x32#8]
  | .swap_E => [0xCB#8, 0x33#8]
  | .swap_H => [0xCB#8, 0x34#8]
  | .swap_L => [0xCB#8, 0x35#8]
  | .swap_atHL => [0xCB#8, 0x36#8]
  | .swap_A => [0xCB#8, 0x37#8]
  | .srl_B => [0xCB#8, 0x38#8]
  | .srl_C => [0xCB#8, 0x39#8]
  | .srl_D => [0xCB#8, 0x3A#8]
  | .srl_E => [0xCB#8, 0x3B#8]
  | .srl_H => [0xCB#8, 0x3C#8]
  | .srl_L => [0xCB#8, 0x3D#8]
  | .srl_atHL => [0xCB#8, 0x3E#8]
  | .srl_A => [0xCB#8, 0x3F#8]
  | .bit_0_B => [0xCB#8, 0x40#8]
  | .bit_0_C => [0xCB#8, 0x41#8]
  | .bit_0_D => [0xCB#8, 0x42#8]
  | .bit_0_E => [0xCB#8, 0x43#8]
  | .bit_0_H => [0xCB#8, 0x44#8]
  | .bit_0_L => [0xCB#8, 0x45#8]
  | .bit_0_atHL => [0xCB#8, 0x46#8]
  | .bit_0_A => [0xCB#8, 0x47#8]
  | .bit_1_B => [0xCB#8, 0x48#8]
  | .bit_1_C => [0xCB#8, 0x49#8]
  | .bit_1_D => [0xCB#8, 0x4A#8]
  | .bit_1_E => [0xCB#8, 0x4B#8]
  | .bit_1_H => [0xCB#8, 0x4C#8]
  | .bit_1_L => [0xCB#8, 0x4D#8]
  | .bit_1_atHL => [0xCB#8, 0x4E#8]
  | .bit_1_A => [0xCB#8, 0x4F#8]
  | .bit_2_B => [0xCB#8, 0x50#8]
  | .bit_2_C => [0xCB#8, 0x51#8]
  | .bit_2_D => [0xCB#8, 0x52#8]
  | .bit_2_E => [0xCB#8, 0x53#8]
  | .bit_2_H => [0xCB#8, 0x54#8]
  | .bit_2_L => [0xCB#8, 0x55#8]
  | .bit_2_atHL => [0xCB#8, 0x56#8]
  | .bit_2_A => [0xCB#8, 0x57#8]
  | .bit_3_B => [0xCB#8, 0x58#8]
  | .bit_3_C => [0xCB#8, 0x59#8]
  | .bit_3_D => [0xCB#8, 0x5A#8]
  | .bit_3_E => [0xCB#8, 0x5B#8]
  | .bit_3_H => [0xCB#8, 0x5C#8]
  | .bit_3_L => [0xCB#8, 0x5D#8]
  | .bit_3_atHL => [0xCB#8, 0x5E#8]
  | .bit_3_A => [0xCB#8, 0x5F#8]
  | .bit_4_B => [0xCB#8, 0x60#8]
  | .bit_4_C => [0xCB#8, 0x61#8]
  | .bit_4_D => [0xCB#8, 0x62#8]
  | .bit_4_E => [0xCB#8, 0x63#8]
  | .bit_4_H => [0xCB#8, 0x64#8]
  | .bit_4_L => [0xCB#8, 0x65#8]
  | .bit_4_atHL => [0xCB#8, 0x66#8]
  | .bit_4_A => [0xCB#8, 0x67#8]
  | .bit_5_B => [0xCB#8, 0x68#8]
  | .bit_5_C => [0xCB#8, 0x69#8]
  | .bit_5_D => [0xCB#8, 0x6A#8]
  | .bit_5_E => [0xCB#8, 0x6B#8]
  | .bit_5_H => [0xCB#8, 0x6C#8]
  | .bit_5_L => [0xCB#8, 0x6D#8]
  | .bit_5_atHL => [0xCB#8, 0x6E#8]
  | .bit_5_A => [0xCB#8, 0x6F#8]
  | .bit_6_B => [0xCB#8, 0x70#8]
  | .bit_6_C => [0xCB#8, 0x71#8]
  | .bit_6_D => [0xCB#8, 0x72#8]
  | .bit_6_E => [0xCB#8, 0x73#8]
  | .bit_6_H => [0xCB#8, 0x74#8]
  | .bit_6_L => [0xCB#8, 0x75#8]
  | .bit_6_atHL => [0xCB#8, 0x76#8]
  | .bit_6_A => [0xCB#8, 0x77#8]
  | .bit_7_B => [0xCB#8, 0x78#8]
  | .bit_7_C => [0xCB#8, 0x79#8]
  | .bit_7_D => [0xCB#8, 0x7A#8]
  | .bit_7_E => [0xCB#8, 0x7B#8]
  | .bit_7_H => [0xCB#8, 0x7C#8]
  | .bit_7_L => [0xCB#8, 0x7D#8]
  | .bit_7_atHL => [0xCB#8, 0x7E#8]
  | .bit_7_A => [0xCB#8, 0x7F#8]
  | .res_0_B => [0xCB#8, 0x80#8]
  | .res_0_C => [0xCB#8, 0x81#8]
  | .res_0_D => [0xCB#8, 0x82#8]
  | .res_0_E => [0xCB#8, 0x83#8]
  | .res_0_H => [0xCB#8, 0x84#8]
  | .res_0_L => [0xCB#8, 0x85#8]
  | .res_0_atHL => [0xCB#8, 0x86#8]
  | .res_0_A => [0xCB#8, 0x87#8]
  | .res_1_B => [0xCB#8, 0x88#8]
  | .res_1_C => [0xCB#8, 0x89#8]
  | .res_1_D => [0xCB#8, 0x8A#8]
  | .res_1_E => [0xCB#8, 0x8B#8]
  | .res_1_H => [0xCB#8, 0x8C#8]
  | .res_1_L => [0xCB#8, 0x8D#8]
  | .res_1_atHL => [0xCB#8, 0x8E#8]
  | .res_1_A => [0xCB#8, 0x8F#8]
  | .res_2_B => [0xCB#8, 0x90#8]
  | .res_2_C => [0xCB#8, 0x91#8]
  | .res_2_D => [0xCB#8, 0x92#8]
  | .res_2_E => [0xCB#8, 0x93#8]
  | .res_2_H => [0xCB#8, 0x94#8]
  | .res_2_L => [0xCB#8, 0x95#8]
  | .res_2_atHL => [0xCB#8, 0x96#8]
  | .res_2_A => [0xCB#8, 0x97#8]
  | .res_3_B => [0xCB#8, 0x98#8]
  | .res_3_C => [0xCB#8, 0x99#8]
  | .res_3_D => [0xCB#8, 0x9A#8]
  | .res_3_E => [0xCB#8, 0x9B#8]
  | .res_3_H => [0xCB#8, 0x9C#8]
  | .res_3_L => [0xCB#8, 0x9D#8]
  | .res_3_atHL => [0xCB#8, 0x9E#8]
  | .res_3_A => [0xCB#8, 0x9F#8]
  | .res_4_B => [0xCB#8, 0xA0#8]
  | .res_4_C => [0xCB#8, 0xA1#8]
  | .res_4_D => [0xCB#8, 0xA2#8]
  | .res_4_E => [0xCB#8, 0xA3#8]
  | .res_4_H => [0xCB#8, 0xA4#8]
  | .res_4_L => [0xCB#8, 0xA5#8]
  | .res_4_atHL => [0xCB#8, 0xA6#8]
  | .res_4_A => [0xCB#8, 0xA7#8]
  | .res_5_B => [0xCB#8, 0xA8#8]
  | .res_5_C => [0xCB#8, 0xA9#8]
  | .res_5_D => [0xCB#8, 0xAA#8]
  | .res_5_E => [0xCB#8, 0xAB#8]
  | .res_5_H => [0xCB#8, 0xAC#8]
  | .res_5_L => [0xCB#8, 0xAD#8]
  | .res_5_atHL => [0xCB#8, 0xAE#8]
  | .res_5_A => [0xCB#8, 0xAF#8]
  | .res_6_B => [0xCB#8, 0xB0#8]
  | .res_6_C => [0xCB#8, 0xB1#8]
  | .res_6_D => [0xCB#8, 0xB2#8]
  | .res_6_E => [0xCB#8, 0xB3#8]
  | .res_6_H => [0xCB#8, 0xB4#8]
  | .res_6_L => [0xCB#8, 0xB5#8]
  | .res_6_atHL => [0xCB#8, 0xB6#8]
  | .res_6_A => [0xCB#8, 0xB7#8]
  | .res_7_B => [0xCB#8, 0xB8#8]
  | .res_7_C => [0xCB#8, 0xB9#8]
  | .res_7_D => [0xCB#8, 0xBA#8]
  | .res_7_E => [0xCB#8, 0xBB#8]
  | .res_7_H => [0xCB#8, 0xBC#8]
  | .res_7_L => [0xCB#8, 0xBD#8]
  | .res_7_atHL => [0xCB#8, 0xBE#8]
  | .res_7_A => [0xCB#8, 0xBF#8]
  | .set_0_B => [0xCB#8, 0xC0#8]
  | .set_0_C => [0xCB#8, 0xC1#8]
  | .set_0_D => [0xCB#8, 0xC2#8]
  | .set_0_E => [0xCB#8, 0xC3#8]
  | .set_0_H => [0xCB#8, 0xC4#8]
  | .set_0_L => [0xCB#8, 0xC5#8]
  | .set_0_atHL => [0xCB#8, 0xC6#8]
  | .set_0_A => [0xCB#8, 0xC7#8]
  | .set_1_B => [0xCB#8, 0xC8#8]
  | .set_1_C => [0xCB#8, 0xC9#8]
  | .set_1_D => [0xCB#8, 0xCA#8]
  | .set_1_E => [0xCB#8, 0xCB#8]
  | .set_1_H => [0xCB#8, 0xCC#8]
  | .set_1_L => [0xCB#8, 0xCD#8]
  | .set_1_atHL => [0xCB#8, 0xCE#8]
  | .set_1_A => [0xCB#8, 0xCF#8]
  | .set_2_B => [0xCB#8, 0xD0#8]
  | .set_2_C => [0xCB#8, 0xD1#8]
  | .set_2_D => [0xCB#8, 0xD2#8]
  | .set_2_E => [0xCB#8, 0xD3#8]
  | .set_2_H => [0xCB#8, 0xD4#8]
  | .set_2_L => [0xCB#8, 0xD5#8]
  | .set_2_atHL => [0xCB#8, 0xD6#8]
  | .set_2_A => [0xCB#8, 0xD7#8]
  | .set_3_B => [0xCB#8, 0xD8#8]
  | .set_3_C => [0xCB#8, 0xD9#8]
  | .set_3_D => [0xCB#8, 0xDA#8]
  | .set_3_E => [0xCB#8, 0xDB#8]
  | .set_3_H => [0xCB#8, 0xDC#8]
  | .set_3_L => [0xCB#8, 0xDD#8]
  | .set_3_atHL => [0xCB#8, 0xDE#8]
  | .set_3_A => [0xCB#8, 0xDF#8]
  | .set_4_B => [0xCB#8, 0xE0#8]
  | .set_4_C => [0xCB#8, 0xE1#8]
  | .set_4_D => [0xCB#8, 0xE2#8]
  | .set_4_E => [0xCB#8, 0xE3#8]
  | .set_4_H => [0xCB#8, 0xE4#8]
  | .set_4_L => [0xCB#8, 0xE5#8]
  | .set_4_atHL => [0xCB#8, 0xE6#8]
  | .set_4_A => [0xCB#8, 0xE7#8]
  | .set_5_B => [0xCB#8, 0xE8#8]
  | .set_5_C => [0xCB#8, 0xE9#8]
  | .set_5_D => [0xCB#8, 0xEA#8]
  | .set_5_E => [0xCB#8, 0xEB#8]
  | .set_5_H => [0xCB#8, 0xEC#8]
  | .set_5_L => [0xCB#8, 0xED#8]
  | .set_5_atHL => [0xCB#8, 0xEE#8]
  | .set_5_A => [0xCB#8, 0xEF#8]
  | .set_6_B => [0xCB#8, 0xF0#8]
  | .set_6_C => [0xCB#8, 0xF1#8]
  | .set_6_D => [0xCB#8, 0xF2#8]
  | .set_6_E => [0xCB#8, 0xF3#8]
  | .set_6_H => [0xCB#8, 0xF4#8]
  | .set_6_L => [0xCB#8, 0xF5#8]
  | .set_6_atHL => [0xCB#8, 0xF6#8]
  | .set_6_A => [0xCB#8, 0xF7#8]
  | .set_7_B => [0xCB#8, 0xF8#8]
  | .set_7_C => [0xCB#8, 0xF9#8]
  | .set_7_D => [0xCB#8, 0xFA#8]
  | .set_7_E => [0xCB#8, 0xFB#8]
  | .set_7_H => [0xCB#8, 0xFC#8]
  | .set_7_L => [0xCB#8, 0xFD#8]
  | .set_7_atHL => [0xCB#8, 0xFE#8]
  | .set_7_A => [0xCB#8, 0xFF#8]

/-- The slot an instruction stands in: its table and the byte that indexes it (41_dispatch R202, R203). -/
def slotOf (i : Instr) : Table × Byte :=
  match encode i with
  | op :: ext :: _ => if op = 0xCB#8 then (.extended, ext) else (.primary, op)
  | op :: _ => (.primary, op)
  | [] => (.primary, 0x00#8)

/-- The bytes of an opcode-table row given as one number, with zero bytes up to the longest instruction (3 bytes). Bits 7..0
are the first byte, except in a 16-bit number whose bits 15..8 are 0xCB: that is an extended row, which 30_encoding R136
numbers (byte 0 << 8) | byte 1 (log 8). -/
def tableBytes (nbits w : Nat) : List Byte :=
  let v := w % 2 ^ nbits
  if nbits = 16 ∧ v / 256 = 0xCB then [0xCB#8, BitVec.ofNat 8 v, 0x00#8]
  else [BitVec.ofNat 8 v, BitVec.ofNat 8 (v / 256), BitVec.ofNat 8 (v / 65536)]

/-- The instruction the decoder reads from an opcode-table row's bits. The row of the slot 0xCB alone is one byte long, so
its eight bits have no byte after them (30_encoding R121; log 10). -/
def decodeTableWord (nbits w : Nat) : Option Instr :=
  let bytes := if nbits = 8 ∧ w % 256 = 0xCB then [0xCB#8] else tableBytes nbits w
  match decode bytes with
  | .ok (i, _) => some i
  | .error _ => none

end Sys2Proof
end

