-- ==== Sys2Proof/Machine/Memory.lean ====
section
/-! DEFINITION. Memory as a list of cells in one canonical form: addresses strictly rising below 65536, no cell holding
0x00, which is what an unlisted address reads as (10_state R30, 70_reset_and_hazards R382; log 2). -/

namespace Sys2Proof.Machine

/-- The array M of 10_state R30, or the overlay BOOT of R32, as its nonzero bytes. -/
abbrev Memory := List Host.Cell

/-- What an address that is not listed reads as: 0x00, the suggested RAM_INIT (92_eei_decisions D14).
DESIGN CHOICE, unsafe: a program could be proved to rely on zeroed RAM (log 2). -/
def Memory.unlisted : Byte := 0#8

/-- The byte at an address. -/
def Memory.read (m : Memory) (a : Nat) : Byte :=
  match m with
  | [] => Memory.unlisted
  | c :: rest => if c.1 = a then c.2 else Memory.read rest a

/-- Place a cell before the first cell of a higher address. -/
def Memory.insert (m : Memory) (a : Nat) (v : Byte) : Memory :=
  match m with
  | [] => [(a, v)]
  | c :: rest => if c.1 < a then c :: Memory.insert rest a v else (a, v) :: c :: rest

/-- Store a byte at an address, keeping the canonical form: storing what an unlisted address reads as removes the cell. -/
def Memory.write (m : Memory) (a : Nat) (v : Byte) : Memory :=
  let others := m.filter fun c => c.1 != a
  if v = Memory.unlisted then others else Memory.insert others a v

/-- The canonical form. -/
abbrev Memory.wf (m : Memory) : Prop :=
  m.Pairwise (fun c d => c.1 < d.1) ∧ ∀ c ∈ m, c.1 < 65536 ∧ c.2 ≠ Memory.unlisted

end Sys2Proof.Machine
end

