-- ==== Sys2Proof/Machine/Cartridge.lean ====
section
/-! DEFINITION. How reset cuts the cartridge image and fills memory (20_memory R86, R64, R65; 70_reset_and_hazards R380). -/

namespace Sys2Proof.Machine

/-- Byte i of the fixed bank, zero padded: `FIXED[i]` for i below 0x4000. -/
def fixedByte (cart : List Byte) (i : Nat) : Byte := cart.getD i 0#8

/-- `NBANKS`, the number of switchable banks in the image. -/
def bankCount (cart : List Byte) : Nat := (cart.length - 0x4000 + 0x3FFF) / 0x4000

/-- `SW[k][i]`, byte i of switchable bank k, zero padded. -/
def bankByte (cart : List Byte) (k i : Nat) : Byte := cart.getD (0x4000 * (k + 1) + i) 0#8

/-- The nonzero bytes of a block of bytes that begins at an address. -/
def cellsFrom (a : Nat) (bytes : List Byte) : Memory :=
  match bytes with
  | [] => []
  | b :: rest => if b = Memory.unlisted then cellsFrom (a + 1) rest else (a, b) :: cellsFrom (a + 1) rest

/-- The cartridge bytes of M: the fixed bank at 0x0000 and bank 0 of the switchable banks at 0x4000. -/
def romCells (cart : List Byte) : Memory :=
  cellsFrom 0 (cart.take 0x4000) ++ cellsFrom 0x4000 ((cart.drop 0x4000).take 0x4000)

/-- The bytes of RAM_INIT, whose domain is [0x8000, 0x10000). -/
def ramCells (ramInit : Memory) : Memory :=
  ramInit.filter fun c => decide (0x8000 ≤ c.1) && decide (c.1 < 0x10000)

/-- M after reset: the cartridge, RAM_INIT, and 0 in the row counter's cell (70_reset_and_hazards R380 steps 1 to 4). -/
def resetMemory (lyAddr : Addr) (cart : List Byte) (ramInit : Memory) : Memory :=
  Memory.write (romCells cart ++ ramCells ramInit) lyAddr.toNat 0#8

end Sys2Proof.Machine
end

