-- ==== Sys2Proof/Machine/Profile.lean ====
section
/-! DEFINITION. The default parameter values and how a step reads a parameter (00_scope R4, 30_encoding R131,
41_dispatch R201, 70_reset_and_hazards R395). -/

namespace Sys2Proof

/-- The primary slots no profile may hold: the eleven of 30_encoding R130, STOP and HALT (R131). -/
def neverModeled : List Byte :=
  [0x10#8, 0x76#8, 0xD3#8, 0xDB#8, 0xDD#8, 0xE3#8, 0xE4#8, 0xEB#8, 0xEC#8, 0xED#8, 0xF4#8, 0xFC#8, 0xFD#8]

/-- Membership in MODELED_PRIMARY or MODELED_EXTENDED (30_encoding R131): 0xCB always, the thirteen slots of
`neverModeled` never, every other slot unless the profile removes it. -/
def Config.models (c : Config) (table : Table) (opcode : Byte) : Bool :=
  match table with
  | .primary => opcode == 0xCB#8 || !(neverModeled.contains opcode || c.removedPrimary.contains opcode)
  | .extended => !c.removedExtended.contains opcode

/-- The first entry for a slot and outcome, else the given default figure. -/
def costIn (entries : List CycleEntry) (table : Table) (opcode : Byte) (taken : Bool) (default : Nat) : Nat :=
  match entries with
  | [] => default
  | e :: rest =>
    if e.table = table ∧ e.opcode = opcode ∧ e.taken = taken then e.cycles else costIn rest table opcode taken default

/-- `CYCLES(table, opcode, taken)`; `default` is the figure of 70_reset_and_hazards R395, which each meaning names. -/
def Config.cost (c : Config) (table : Table) (opcode : Byte) (taken : Bool) (default : Nat) : Nat :=
  costIn c.cycles table opcode taken default

/-- The default IO_WRITE_OK: 21 sound registers, LCD control, scroll-Y, background palette (20_memory R69). -/
def defaultIoWriteOk : List Addr :=
  [0xFF10#16, 0xFF11#16, 0xFF12#16, 0xFF13#16, 0xFF14#16] ++
  [0xFF16#16, 0xFF17#16, 0xFF18#16, 0xFF19#16, 0xFF1A#16, 0xFF1B#16, 0xFF1C#16, 0xFF1D#16, 0xFF1E#16] ++
  [0xFF20#16, 0xFF21#16, 0xFF22#16, 0xFF23#16, 0xFF24#16, 0xFF25#16, 0xFF26#16] ++
  [0xFF40#16, 0xFF42#16, 0xFF47#16]

/-- The default parameters (00_scope R4). BOOT has no default: all zero is this model's DESIGN CHOICE, unsafe (log 3). -/
def Config.default : Config where
  boot := []
  removedPrimary := [0xF3#8, 0xFB#8, 0xD9#8]
  removedExtended := []
  cycles := []
  incDecHMode := .nibble
  ioWriteOk := defaultIoWriteOk
  ioReadOk := [0xFF42#16, 0xFF44#16]
  lyAddr := 0xFF44#16
  frameBudget := 69905

end Sys2Proof
end

