-- ==== Sys2Proof/Machine/State.lean ====
section
/-! DEFINITION. The state of the machine (10_state R45), the reasons a step can stop, and the state after reset. -/

namespace Sys2Proof.Machine

/-- The three phases of the scanline machine (10_state R34). -/
inductive Phase where
  | oamSearch
  | pixelTransfer
  | hblank
  deriving DecidableEq, Repr

/-- One entry of the output history (10_state R41 a and b). -/
inductive Event where
  /-- A tile notification: 9-bit tile, 3-bit row, 3-bit pixel, 2-bit colour (20_memory R74). -/
  | tile (tile : BitVec 9) (row : BitVec 3) (px : BitVec 3) (colour : BitVec 2)
  /-- The frame pulse (60_exceptions R352). -/
  | frameElapsed
  deriving DecidableEq, Repr

/-- The fields `dir` and `value` of a refused byte access (60_exceptions R331): a read, or a write and its byte. -/
inductive Access where
  | read
  | write (value : Byte)
  deriving DecidableEq, Repr

/-- The fatal-error record (60_exceptions R331). -/
inductive FatalError where
  | unimplementedOpcode (table : Table) (opcode : Byte) (pc : Addr)
  | unimplementedMemoryAccess (access : Access) (addr : Addr) (pc : Addr)
  deriving DecidableEq, Repr

/-- The labels 1 and 2 of 60_exceptions R330. -/
def FatalError.code (r : FatalError) : Nat :=
  match r with
  | .unimplementedOpcode _ _ _ => 1
  | .unimplementedMemoryAccess _ _ _ => 2

/-- The state tuple of 10_state R45, with `instrCycles` (R37), the input `hostRunning` (60_exceptions R353) and the
parameters `cfg` (00_scope R10; log 1). -/
structure State where
  /-- The accumulator (R20). -/
  a : Byte
  b : Byte
  c : Byte
  d : Byte
  e : Byte
  h : Byte
  l : Byte
  /-- The flags Z, N, H, C in bits 7 to 4 (R24, R25). -/
  f : Byte
  /-- The stack pointer: the address the next push writes to (R27). -/
  sp : Addr
  /-- The program counter (R28). -/
  pc : Addr
  /-- The array M (R30), the row counter in its cell `lyAddr` among it (R35). -/
  mem : List Host.Cell
  /-- The overlay latch (R31). -/
  bootEnabled : Bool
  phase : Phase
  scanCycles : Nat
  frameCycles : Nat
  /-- The cost reported by the current instruction (R37). -/
  instrCycles : Nat
  /-- `none`, or the record that ended the run (R38). -/
  fault : Option FatalError
  /-- Everything emitted so far, oldest first (R45). -/
  output : List Event
  /-- The host's input of 60_exceptions R353; no step writes it (log 7). -/
  hostRunning : Bool
  /-- The parameters; no step writes them (log 1). -/
  cfg : Config
  deriving DecidableEq, Repr

/-- Why the machine stops. The first two carry the state in which the run ended, whose `fault` holds the record: of that
state nothing but `fault` is to be relied on (60_exceptions R333; log 5). -/
inductive Fault where
  /-- Raised by an instruction, or by the step that fetches it, when its slot is not in the modeled sets (41_dispatch
  R204). It is the hardware's own fatal error: safe. -/
  | unimplementedOpcode (table : Table) (opcode : Byte) (pc : Addr) (stopped : State)
  /-- Raised by a fetch or by an instruction's data access that the address decoder turns down (20_memory R68, R69, R72,
  R73). It is the hardware's own fatal error: safe. -/
  | unimplementedMemoryAccess (access : Access) (addr : Addr) (pc : Addr) (stopped : State)
  /-- Answered by `step` in a state whose `fault` already holds a record: no instruction step exists there (10_state R38,
  60_exceptions R336). Safe. -/
  | noFurtherStep (record : FatalError)
  deriving DecidableEq, Repr

/-- Why the model has no meaning for an instruction. -/
inductive Refusal where
  /-- Answered by an arm of exec whose instruction has no meaning yet: none is left, so nothing answers it. Safe. -/
  | notModelled (mnemonic : String)
  deriving DecidableEq, Repr

/-- What an instruction or a step answers. -/
abbrev Result := Host.Outcome State Fault Refusal

/-- Reset with the parameters, a cartridge image and the initial RAM (70_reset_and_hazards R380, 10_state R44). -/
def State.resetWith (cfg : Config) (cart : List Byte) (ramInit : Memory) : State where
  a := 0#8
  b := 0#8
  c := 0#8
  d := 0#8
  e := 0#8
  h := 0#8
  l := 0#8
  f := 0#8
  sp := 0xFFFE#16
  pc := 0x0000#16
  mem := resetMemory cfg.lyAddr cart ramInit
  bootEnabled := true
  phase := .oamSearch
  scanCycles := 0
  frameCycles := 0
  instrCycles := 0
  fault := none
  output := []
  hostRunning := true
  cfg := cfg

/-- The machine right after reset with the default parameters, an empty cartridge image and RAM_INIT all zero
(DESIGN CHOICE, unsafe: log 2, log 3, log 4). -/
def State.reset : State := State.resetWith Config.default [] []

end Sys2Proof.Machine
end

