-- ==== Sys2Proof/Machine/Operands.lean ====
section
/-! DEFINITION. Register operands: the byte registers, the pair views, the stack pairs (10_state R20 to R23, R27;
30_encoding R123). -/

namespace Sys2Proof.Machine

/-- Read a byte register. -/
def State.reg (s : State) (r : Reg8) : Byte :=
  match r with
  | .b => s.b
  | .c => s.c
  | .d => s.d
  | .e => s.e
  | .h => s.h
  | .l => s.l
  | .a => s.a

/-- Write a byte register. -/
def State.setReg (s : State) (r : Reg8) (v : Byte) : State :=
  match r with
  | .b => { s with b := v }
  | .c => { s with c := v }
  | .d => { s with d := v }
  | .e => { s with e := v }
  | .h => { s with h := v }
  | .l => { s with l := v }
  | .a => { s with a := v }

/-- The pair view HL (10_state R21). -/
def State.hl (s : State) : Addr := pair s.h s.l

/-- Read a pair, or SP (10_state R21). -/
def State.reg16 (s : State) (r : Reg16) : Addr :=
  match r with
  | .bc => pair s.b s.c
  | .de => pair s.d s.e
  | .hl => pair s.h s.l
  | .sp => s.sp

/-- Write a pair as two byte writes, the high byte first (10_state R21, R22), or SP. -/
def State.setReg16 (s : State) (r : Reg16) (v : Addr) : State :=
  match r with
  | .bc => (s.setReg .b (hiByte v)).setReg .c (loByte v)
  | .de => (s.setReg .d (hiByte v)).setReg .e (loByte v)
  | .hl => (s.setReg .h (hiByte v)).setReg .l (loByte v)
  | .sp => { s with sp := v }

/-- Read a stack pair; AF is A:F (10_state R23). -/
def State.stk (s : State) (r : Stk16) : Addr :=
  match r with
  | .bc => pair s.b s.c
  | .de => pair s.d s.e
  | .hl => pair s.h s.l
  | .af => pair s.a s.f

/-- Write a stack pair; a write to AF drops the low nibble of F (10_state R23, R24). -/
def State.setStk (s : State) (r : Stk16) (v : Addr) : State :=
  match r with
  | .bc => s.setReg16 .bc v
  | .de => s.setReg16 .de v
  | .hl => s.setReg16 .hl v
  | .af => { s with a := hiByte v, f := loByte v &&& 0xF0#8 }

end Sys2Proof.Machine
end

