-- ==== Sys2Proof/Machine/Flags.lean ====
section
/-! DEFINITION. The flags and every flag computation: 10_state R24 to R26, 40_alu8 R150 to R154, R183, R188 to R191,
44_load16_arith16 R283, R286, R287, 45_rotate_bit R300 to R313, 42_control_stack R241. -/

namespace Sys2Proof.Machine

/-- F.Z (10_state R25). -/
def State.zf (s : State) : Bool := s.f.getLsbD 7

/-- F.N. -/
def State.nf (s : State) : Bool := s.f.getLsbD 6

/-- F.H. -/
def State.hf (s : State) : Bool := s.f.getLsbD 5

/-- F.C. -/
def State.cf (s : State) : Bool := s.f.getLsbD 4

/-- The bits of `mask` set or cleared in a byte, the others kept (10_state R26). -/
def putMask (v mask : Byte) (b : Bool) : Byte := if b then v ||| mask else v &&& ~~~mask

/-- F.Z <- b (10_state R26). -/
def State.setZ (s : State) (b : Bool) : State := { s with f := putMask s.f 0x80#8 b }

/-- F.N <- b. -/
def State.setN (s : State) (b : Bool) : State := { s with f := putMask s.f 0x40#8 b }

/-- F.H <- b. -/
def State.setH (s : State) (b : Bool) : State := { s with f := putMask s.f 0x20#8 b }

/-- F.C <- b. -/
def State.setC (s : State) (b : Bool) : State := { s with f := putMask s.f 0x10#8 b }

/-- The byte `(z << 7) | (n << 6) | (h << 5) | (c << 4)` (10_state R26). -/
def packFlags (z n h c : Bool) : Byte :=
  (bitByte z <<< 7) ||| (bitByte n <<< 6) ||| (bitByte h <<< 5) ||| (bitByte c <<< 4)

/-- `flags(z, n, h, c)` (00_scope R7, 10_state R26). -/
def State.setFlags (s : State) (z n h c : Bool) : State := { s with f := packFlags z n h c }

/-- A condition on F (30_encoding R123, 42_control_stack R241). -/
def Cond.holds (k : Cond) (s : State) : Bool :=
  match k with
  | .nz => !s.zf
  | .z => s.zf
  | .nc => !s.cf
  | .c => s.cf

/-- `add_a(operand, with_carry)` (40_alu8 R150): H from the raw operand, the effective operand not reduced. -/
def addA (withCarry : Bool) (operand : Byte) (s : State) : State :=
  let cin : Nat := if withCarry && s.cf then 1 else 0
  let eff : Nat := operand.toNat + cin
  let h : Bool := (s.a.toNat % 16 + operand.toNat % 16).testBit 4
  let sum : Nat := s.a.toNat + eff
  let res : Byte := BitVec.ofNat 8 sum
  { s.setFlags (res == 0#8) false h (decide (0xFF < sum)) with a := res }

/-- `do_sub(operand)` (40_alu8 R151): borrows read from bits 8 and 4 of the xor of a 16-bit difference. -/
def doSub (operand : Byte) (s : State) : State :=
  let t : Addr := s.a.setWidth 16 - operand.setWidth 16
  let cb : Addr := s.a.setWidth 16 ^^^ operand.setWidth 16 ^^^ t
  let res : Byte := loByte t
  { s.setFlags (res == 0#8) true (cb.getLsbD 4) (cb.getLsbD 8) with a := res }

/-- `sbc_a(operand)` (40_alu8 R153). -/
def sbcA (operand : Byte) (s : State) : State :=
  let t : Addr := s.a.setWidth 16 - operand.setWidth 16 - (bitByte s.cf).setWidth 16
  let cb : Addr := s.a.setWidth 16 ^^^ operand.setWidth 16 ^^^ t
  let res : Byte := loByte t
  { s.setFlags (res == 0#8) true (cb.getLsbD 4) (cb.getLsbD 8) with a := res }

/-- `cmp_a_with(operand)` (40_alu8 R152): flags only. -/
def cmpA (operand : Byte) (s : State) : State :=
  let r : Byte := s.a - operand
  s.setFlags (r == 0#8) true (decide (s.a.toNat % 16 < operand.toNat % 16)) (decide (s.a.toNat < operand.toNat))

/-- `and_a(operand)` (40_alu8 R154). -/
def andA (operand : Byte) (s : State) : State :=
  let res : Byte := s.a &&& operand
  { s.setFlags (res == 0#8) false true false with a := res }

/-- `xor_a(operand)` (40_alu8 R154). -/
def xorA (operand : Byte) (s : State) : State :=
  let res : Byte := s.a ^^^ operand
  { s.setFlags (res == 0#8) false false false with a := res }

/-- `or_a(operand)` (40_alu8 R154). -/
def orA (operand : Byte) (s : State) : State :=
  let res : Byte := s.a ||| operand
  { s.setFlags (res == 0#8) false false false with a := res }

/-- The accumulator operation `alu[y]` on an operand (40_alu8 R155). -/
def alu (k : AluOp) (operand : Byte) (s : State) : State :=
  match k with
  | .add => addA false operand s
  | .adc => addA true operand s
  | .sub => doSub operand s
  | .sbc => sbcA operand s
  | .and => andA operand s
  | .xor => xorA operand s
  | .or => orA operand s
  | .cp => cmpA operand s

/-- H of an increment, from the value before it (40_alu8 R183). -/
def incH (mode : IncDecHMode) (pre : Byte) : Bool :=
  match mode with
  | .nibble => pre.toNat % 16 == 0xF
  | .literal => pre == 0x0F#8

/-- H of a decrement, from the value before it (40_alu8 R183). -/
def decH (mode : IncDecHMode) (pre : Byte) : Bool :=
  match mode with
  | .nibble => pre.toNat % 16 == 0x0
  | .literal => pre == 0x10#8

/-- `inc8_flags(pre)` (40_alu8 R183). -/
def inc8Flags (pre : Byte) (s : State) : State :=
  ((s.setZ (pre == 0xFF#8)).setN false).setH (incH s.cfg.incDecHMode pre)

/-- `dec8_flags(pre)` (40_alu8 R183). -/
def dec8Flags (pre : Byte) (s : State) : State :=
  ((s.setZ (pre == 0x01#8)).setN true).setH (decH s.cfg.incDecHMode pre)

/-- DAA (40_alu8 R188): both tests of the addition branch use A before the adjustment. -/
def daaA (s : State) : State :=
  let low : Bool := if s.nf then s.hf else s.hf || decide (0x09 < s.a.toNat % 16)
  let high : Bool := if s.nf then s.cf else s.cf || decide (0x99 < s.a.toNat)
  let adj : Byte := (if low then 0x06#8 else 0x00#8) ||| (if high then 0x60#8 else 0x00#8)
  let c : Bool := if s.nf then s.cf else high
  let res : Byte := if s.nf then s.a - adj else s.a + adj
  ({ s with a := res }.setZ (res == 0#8)).setH false |>.setC c

/-- CPL (40_alu8 R189). -/
def cplA (s : State) : State := ({ s with a := s.a ^^^ 0xFF#8 }.setN true).setH true

/-- SCF (40_alu8 R190). -/
def scfF (s : State) : State := ((s.setN false).setH false).setC true

/-- CCF (40_alu8 R191). -/
def ccfF (s : State) : State := ((s.setN false).setH false).setC (!s.cf)

/-- The result of a rotate or shift and the bit that goes to C, from the operand and the carry before the instruction
(45_rotate_bit R305 to R312). -/
def rotate (k : RotOp) (cin : Bool) (v : Byte) : Byte × Bool :=
  match k with
  | .rlc => ((v <<< 1) ||| bitByte (v.getLsbD 7), v.getLsbD 7)
  | .rrc => ((v >>> 1) ||| (bitByte (v.getLsbD 0) <<< 7), v.getLsbD 0)
  | .rl => ((v <<< 1) ||| bitByte cin, v.getLsbD 7)
  | .rr => ((v >>> 1) ||| (bitByte cin <<< 7), v.getLsbD 0)
  | .sla => (v <<< 1, v.getLsbD 7)
  | .sra => ((v >>> 1) ||| (v &&& 0x80#8), v.getLsbD 0)
  | .swap => ((v <<< 4) ||| (v >>> 4), false)
  | .srl => (v >>> 1, v.getLsbD 0)

/-- RLCA, RRCA, RLA, RRA: the rotate on A with Z, N, H cleared (45_rotate_bit R300 to R303). -/
def rotateA (k : RotOp) (s : State) : State :=
  let r := rotate k s.cf s.a
  { s.setFlags false false false r.2 with a := r.1 }

/-- ADD HL (44_load16_arith16 R286): Z kept. -/
def addHL (v : Addr) (s : State) : State :=
  let h : Bool := decide (0x0FFF < s.hl.toNat % 0x1000 + v.toNat % 0x1000)
  let c : Bool := decide (0xFFFF < s.hl.toNat + v.toNat)
  (((s.setReg16 .hl (s.hl + v)).setN false).setH h).setC c

/-- The flags of SP plus a displacement (44_load16_arith16 R283, R287): the unsigned addition of the low bytes. -/
def spFlags (sp : Addr) (e : Byte) (s : State) : State :=
  let h : Bool := decide (0x000F < sp.toNat % 0x10 + e.toNat % 0x10)
  let c : Bool := decide (0x00FF < sp.toNat % 0x100 + e.toNat)
  s.setFlags false false h c

/-- The flags of BIT (45_rotate_bit R313): C kept. -/
def bitFlags (bit : Bool) (s : State) : State := ((s.setZ (!bit)).setN false).setH true

end Sys2Proof.Machine
end

