-- ==== Sys2Proof/Machine/Ops.lean ====
section
/-! DEFINITION. The shared operations: the address decoder, the tile port, words, the stack, taking a fatal error, the
frame of one instruction, and what a step does after it (20_memory, 30_encoding R124, 42_control_stack R220 and R221,
60_exceptions R330, R345 to R352, 41_dispatch R200). -/

namespace Sys2Proof.Machine

/-- A byte access that the address decoder turns down, and the state reached by then (60_exceptions R331, R333). -/
structure BadAccess where
  access : Access
  addr : Addr
  stopped : State
  deriving DecidableEq, Repr

/-- What a micro-operation answers. -/
abbrev Micro (α : Type) := Except BadAccess α

/-- The I/O page [0xFF00, 0xFF80). -/
def isIo (a : Addr) : Bool := decide (0xFF00 ≤ a.toNat) && decide (a.toNat < 0xFF80)

/-- Whether the boot overlay covers an address now (20_memory R63). -/
def State.overlaid (s : State) (a : Addr) : Bool := s.bootEnabled && decide (a.toNat < 0x0100)

/-- `MemRead(a, 1)` (20_memory R62). -/
def State.memRead (s : State) (a : Addr) : Micro Byte :=
  if s.overlaid a then .ok (Memory.read s.cfg.boot a.toNat)
  else if isIo a then
    if s.cfg.ioReadOk.contains a then .ok (Memory.read s.mem a.toNat)
    else .error ⟨.read, a, s⟩
  else .ok (Memory.read s.mem a.toNat)

/-- One pixel of the tile row that holds an address (20_memory R74): byte1 is the low plane, bit 7 the leftmost pixel. -/
def tilePixel (a : Addr) (byte1 byte2 : Byte) (px : Nat) : Event :=
  .tile (((a - 0x8000#16) >>> 4).setWidth 9) ((a >>> 1).setWidth 3) (BitVec.ofNat 3 px)
    (BitVec.ofBool (byte2.getLsbD (7 - px)) ++ BitVec.ofBool (byte1.getLsbD (7 - px)))

/-- The eight notifications of `tile_decode(a)`, read from M as it stands (20_memory R74). -/
def tileEvents (m : Memory) (a : Addr) : List Event :=
  let base : Addr := a &&& 0xFFFE#16
  let byte1 : Byte := Memory.read m base.toNat
  let byte2 : Byte := Memory.read m (base.toNat + 1)
  [0, 1, 2, 3, 4, 5, 6, 7].map (tilePixel a byte1 byte2)

/-- Store a byte in M and, in video RAM, emit the tile row (20_memory R67, R71, R74). -/
def State.store (s : State) (a : Addr) (v : Byte) : State :=
  let m := Memory.write s.mem a.toNat v
  if a.toNat < 0xA000 then { s with mem := m, output := s.output ++ tileEvents m a } else { s with mem := m }

/-- `MemWrite(a, 1, v)` (20_memory R71). -/
def State.memWrite (s : State) (a : Addr) (v : Byte) : Micro State :=
  if s.overlaid a then .error ⟨.write v, a, s⟩
  else if a.toNat < 0x8000 then .error ⟨.write v, a, s⟩
  else if isIo a then
    if s.cfg.ioWriteOk.contains a then .ok (s.store a v) else .error ⟨.write v, a, s⟩
  else .ok (s.store a v)

/-- `MemRead(a, 2)`, the low byte first (20_memory R76). -/
def State.memRead2 (s : State) (a : Addr) : Micro Addr := do
  let lo ← s.memRead a
  let hi ← s.memRead (a + 1#16)
  .ok (pair hi lo)

/-- `MemWrite(a, 2, v)`, the low byte first (20_memory R77). -/
def State.memWrite2 (s : State) (a v : Addr) : Micro State := do
  let t ← s.memWrite a (loByte v)
  t.memWrite (a + 1#16) (hiByte v)

/-- PC moved past n bytes (10_state R28). -/
def State.advance (s : State) (n : Nat) : State := { s with pc := s.pc + BitVec.ofNat 16 n }

/-- `fetch8()` (30_encoding R124). -/
def State.fetch8 (s : State) : Micro (Byte × State) := do
  let v ← s.memRead s.pc
  .ok (v, s.advance 1)

/-- `push16(v)` (42_control_stack R220): write at SP, then subtract 2. -/
def State.push16 (s : State) (v : Addr) : Micro State := do
  let t ← s.memWrite2 s.sp v
  .ok { t with sp := t.sp - 2#16 }

/-- `pop16()` (42_control_stack R221): add 2 to SP, then read there. -/
def State.pop16 (s : State) : Micro (Addr × State) := do
  let t := { s with sp := s.sp + 2#16 }
  let v ← t.memRead2 t.sp
  .ok (v, t)

/-- `read_operand(z)` (45_rotate_bit R304). -/
def State.readOperand (s : State) (o : Operand8) : Micro Byte :=
  match o with
  | .reg r => .ok (s.reg r)
  | .atHL => s.memRead s.hl

/-- `write_operand(z, v)` (45_rotate_bit R304). -/
def State.writeOperand (s : State) (o : Operand8) (v : Byte) : Micro State :=
  match o with
  | .reg r => .ok (s.setReg r v)
  | .atHL => s.memWrite s.hl v

/-- The figure for a register operand or for (HL) (70_reset_and_hazards R395). -/
def Operand8.cycles (o : Operand8) (forReg forMem : Nat) : Nat :=
  match o with
  | .reg _ => forReg
  | .atHL => forMem

/-- `cyc(n)` with n the value of CYCLES for the slot (41_dispatch R201). -/
def State.cyc (s : State) (table : Table) (opcode : Byte) (taken : Bool) (default : Nat) : State :=
  { s with instrCycles := s.instrCycles + s.cfg.cost table opcode taken default }

/-- `raise Fatal(kind, info)` (60_exceptions R330): the record goes to `fault` and the machine stops. -/
def raise (r : FatalError) (s : State) : Result :=
  match r with
  | .unimplementedOpcode table opcode pc => .fault (.unimplementedOpcode table opcode pc { s with fault := some r })
  | .unimplementedMemoryAccess access addr pc =>
    .fault (.unimplementedMemoryAccess access addr pc { s with fault := some r })

/-- The record of a turned-down access made by the instruction whose first byte is at `pc0` (60_exceptions R331). -/
def BadAccess.record (x : BadAccess) (pc0 : Addr) : FatalError := .unimplementedMemoryAccess x.access x.addr pc0

/-- The bytes of an instruction that select its slot: the opcode byte, or 0xCB and the extended byte (30_encoding R121). -/
def opcodeBytes (table : Table) : Nat :=
  match table with
  | .primary => 1
  | .extended => 2

/-- The handler of an unimplemented slot (41_dispatch R204); `s.pc` is the address of the instruction's first byte. -/
def unimplementedSlot (table : Table) (opcode : Byte) (s : State) : Result :=
  raise (.unimplementedOpcode table opcode s.pc) (s.advance (opcodeBytes table))

/-- The frame of every instruction: the slot check, PC past the instruction's bytes, the operation, and the fatal error
of an access that the operation makes (41_dispatch R200, R204; 30_encoding R124). The bytes have been fetched by the
step already; `s.pc` is the address of the first of them (log 12). -/
def execSlot (table : Table) (opcode : Byte) (length : Nat) (op : State → Micro State) (s : State) : Result :=
  if s.cfg.models table opcode then
    match op (s.advance length) with
    | .ok t => .next t
    | .error x => raise (x.record s.pc) x.stopped
  else unimplementedSlot table opcode s

/-- The boot latch check (41_dispatch R205). -/
def bootLatch (s : State) : State := if s.pc = 0x0100#16 then { s with bootEnabled := false } else s

/-- `row_increment()` (60_exceptions R347): directly on M. -/
def rowIncrement (s : State) : State :=
  let row := Memory.read s.mem s.cfg.lyAddr.toNat
  { s with mem := Memory.write s.mem s.cfg.lyAddr.toNat (if row = 153#8 then 0#8 else row + 1#8) }

/-- The cycles a phase lasts (60_exceptions R346). -/
def Phase.threshold (p : Phase) : Nat :=
  match p with
  | .oamSearch => 80
  | .pixelTransfer => 172
  | .hblank => 204

/-- `transition()` (60_exceptions R346). -/
def transition (s : State) : State :=
  if s.phase.threshold ≤ s.scanCycles then
    match s.phase with
    | .oamSearch => { s with scanCycles := s.scanCycles - 80, phase := .pixelTransfer }
    | .pixelTransfer => { s with scanCycles := s.scanCycles - 172, phase := .hblank }
    | .hblank => rowIncrement { s with scanCycles := s.scanCycles - 204, phase := .oamSearch }
  else s

/-- `scanline_update(n)` (60_exceptions R345): at most one transition. -/
def scanlineUpdate (n : Nat) (s : State) : State := transition { s with scanCycles := s.scanCycles + n }

/-- `frame_update(n)` (60_exceptions R352). -/
def frameUpdate (n : Nat) (s : State) : State :=
  let total := s.frameCycles + n
  if s.cfg.frameBudget ≤ total then
    { s with frameCycles := total - s.cfg.frameBudget, output := s.output ++ [.frameElapsed] }
  else { s with frameCycles := total }

/-- Steps 5 to 7 of an instruction step (41_dispatch R200). -/
def afterInstruction (s : State) : State :=
  frameUpdate s.instrCycles (scanlineUpdate s.instrCycles (bootLatch s))

/-- The end of a step: the updates after an instruction that did not fault, nothing after one that did. -/
def finish (r : Result) : Result :=
  match r with
  | .next s => .next (afterInstruction s)
  | other => other

/-- Step 1 of an instruction step: no cost reported yet (41_dispatch R200, 10_state R37). -/
def State.beginStep (s : State) : State := { s with instrCycles := 0 }

/-- When a step runs an instruction (41_dispatch R200, 10_state R38, 60_exceptions R353): the host lets it and no fatal
error has ended the run. A step the host does not want leaves the state as it is (log 7). -/
def gate (s : State) (run : State → Result) : Result :=
  if s.hostRunning then
    match s.fault with
    | none => run s.beginStep
    | some r => .fault (.noFurtherStep r)
  else .next s

/-- Put a byte where a read of an address finds it: in the overlay where that covers the address, else in M, the address
made readable if it lies in the I/O page (log 9). -/
def State.plantByte (s : State) (a : Addr) (v : Byte) : State :=
  if s.overlaid a then { s with cfg := { s.cfg with boot := Memory.write s.cfg.boot a.toNat v } }
  else if isIo a && !s.cfg.ioReadOk.contains a then
    { s with mem := Memory.write s.mem a.toNat v, cfg := { s.cfg with ioReadOk := a :: s.cfg.ioReadOk } }
  else { s with mem := Memory.write s.mem a.toNat v }

/-- Put bytes at an address and the addresses after it. -/
def State.plantBytes (s : State) (a : Addr) (bytes : List Byte) : State :=
  match bytes with
  | [] => s
  | v :: rest => (s.plantByte a v).plantBytes (a + 1#16) rest

end Sys2Proof.Machine
end

