-- ==== Sys2Proof/Machine/Alu8.lean ====
section
/-! DEFINITION. The 8-bit arithmetic and logic instructions (40_alu8 R156 to R191). -/

namespace Sys2Proof.Machine

/-- An accumulator operation on a register, which is read before A is written (40_alu8 R155). -/
def aluReg (k : AluOp) (r : Reg8) (opcode : Byte) : State → Result :=
  execSlot .primary opcode 1 fun t => .ok ((alu k (t.reg r) t).cyc .primary opcode false 4)

/-- An accumulator operation on the byte at HL (40_alu8 R155). -/
def aluAtHL (k : AluOp) (opcode : Byte) : State → Result :=
  execSlot .primary opcode 1 fun t => do
    let v ← t.memRead t.hl
    .ok ((alu k v t).cyc .primary opcode false 8)

/-- An accumulator operation on an immediate (40_alu8 R155). -/
def aluImm (k : AluOp) (n8 : Byte) (opcode : Byte) : State → Result :=
  execSlot .primary opcode 2 fun t => .ok ((alu k n8 t).cyc .primary opcode false 8)

/-- INC r8 and INC (HL): the operand is written, then the flags (40_alu8 R184, R185). -/
def incOperand (o : Operand8) (opcode : Byte) : State → Result :=
  execSlot .primary opcode 1 fun t => do
    let pre ← t.readOperand o
    let u ← t.writeOperand o (pre + 1#8)
    .ok ((inc8Flags pre u).cyc .primary opcode false (o.cycles 4 12))

/-- DEC r8 and DEC (HL): the operand is written, then the flags (40_alu8 R186, R187). -/
def decOperand (o : Operand8) (opcode : Byte) : State → Result :=
  execSlot .primary opcode 1 fun t => do
    let pre ← t.readOperand o
    let u ← t.writeOperand o (pre - 1#8)
    .ok ((dec8Flags pre u).cyc .primary opcode false (o.cycles 4 12))

/-- A one-byte instruction on A and F alone (40_alu8 R188 to R191). -/
def adjust (op : State → State) (opcode : Byte) : State → Result :=
  execSlot .primary opcode 1 fun t => .ok ((op t).cyc .primary opcode false 4)

/-- `INC B`, slot 0x04 (40_alu8 R184). -/
def execInc_B (s : State) : Result := incOperand (.reg .b) 0x04#8 s

/-- `DEC B`, slot 0x05 (40_alu8 R186). -/
def execDec_B (s : State) : Result := decOperand (.reg .b) 0x05#8 s

/-- `INC C`, slot 0x0C (40_alu8 R184). -/
def execInc_C (s : State) : Result := incOperand (.reg .c) 0x0C#8 s

/-- `DEC C`, slot 0x0D (40_alu8 R186). -/
def execDec_C (s : State) : Result := decOperand (.reg .c) 0x0D#8 s

/-- `INC D`, slot 0x14 (40_alu8 R184). -/
def execInc_D (s : State) : Result := incOperand (.reg .d) 0x14#8 s

/-- `DEC D`, slot 0x15 (40_alu8 R186). -/
def execDec_D (s : State) : Result := decOperand (.reg .d) 0x15#8 s

/-- `INC E`, slot 0x1C (40_alu8 R184). -/
def execInc_E (s : State) : Result := incOperand (.reg .e) 0x1C#8 s

/-- `DEC E`, slot 0x1D (40_alu8 R186). -/
def execDec_E (s : State) : Result := decOperand (.reg .e) 0x1D#8 s

/-- `INC H`, slot 0x24 (40_alu8 R184). -/
def execInc_H (s : State) : Result := incOperand (.reg .h) 0x24#8 s

/-- `DEC H`, slot 0x25 (40_alu8 R186). -/
def execDec_H (s : State) : Result := decOperand (.reg .h) 0x25#8 s

/-- `DAA`, slot 0x27 (40_alu8 R188). -/
def execDaa (s : State) : Result := adjust daaA 0x27#8 s

/-- `INC L`, slot 0x2C (40_alu8 R184). -/
def execInc_L (s : State) : Result := incOperand (.reg .l) 0x2C#8 s

/-- `DEC L`, slot 0x2D (40_alu8 R186). -/
def execDec_L (s : State) : Result := decOperand (.reg .l) 0x2D#8 s

/-- `CPL`, slot 0x2F (40_alu8 R189). -/
def execCpl (s : State) : Result := adjust cplA 0x2F#8 s

/-- `INC (HL)`, slot 0x34 (40_alu8 R185). -/
def execInc_atHL (s : State) : Result := incOperand .atHL 0x34#8 s

/-- `DEC (HL)`, slot 0x35 (40_alu8 R187). -/
def execDec_atHL (s : State) : Result := decOperand .atHL 0x35#8 s

/-- `SCF`, slot 0x37 (40_alu8 R190). -/
def execScf (s : State) : Result := adjust scfF 0x37#8 s

/-- `INC A`, slot 0x3C (40_alu8 R184). -/
def execInc_A (s : State) : Result := incOperand (.reg .a) 0x3C#8 s

/-- `DEC A`, slot 0x3D (40_alu8 R186). -/
def execDec_A (s : State) : Result := decOperand (.reg .a) 0x3D#8 s

/-- `CCF`, slot 0x3F (40_alu8 R191). -/
def execCcf (s : State) : Result := adjust ccfF 0x3F#8 s

/-- `ADD A,B`, slot 0x80 (40_alu8 R156). -/
def execAdd_B (s : State) : Result := aluReg .add .b 0x80#8 s

/-- `ADD A,C`, slot 0x81 (40_alu8 R156). -/
def execAdd_C (s : State) : Result := aluReg .add .c 0x81#8 s

/-- `ADD A,D`, slot 0x82 (40_alu8 R156). -/
def execAdd_D (s : State) : Result := aluReg .add .d 0x82#8 s

/-- `ADD A,E`, slot 0x83 (40_alu8 R156). -/
def execAdd_E (s : State) : Result := aluReg .add .e 0x83#8 s

/-- `ADD A,H`, slot 0x84 (40_alu8 R156). -/
def execAdd_H (s : State) : Result := aluReg .add .h 0x84#8 s

/-- `ADD A,L`, slot 0x85 (40_alu8 R156). -/
def execAdd_L (s : State) : Result := aluReg .add .l 0x85#8 s

/-- `ADD A,(HL)`, slot 0x86 (40_alu8 R157). -/
def execAdd_atHL (s : State) : Result := aluAtHL .add 0x86#8 s

/-- `ADD A,A`, slot 0x87 (40_alu8 R156). -/
def execAdd_A (s : State) : Result := aluReg .add .a 0x87#8 s

/-- `ADC A,B`, slot 0x88 (40_alu8 R159). -/
def execAdc_B (s : State) : Result := aluReg .adc .b 0x88#8 s

/-- `ADC A,C`, slot 0x89 (40_alu8 R159). -/
def execAdc_C (s : State) : Result := aluReg .adc .c 0x89#8 s

/-- `ADC A,D`, slot 0x8A (40_alu8 R159). -/
def execAdc_D (s : State) : Result := aluReg .adc .d 0x8A#8 s

/-- `ADC A,E`, slot 0x8B (40_alu8 R159). -/
def execAdc_E (s : State) : Result := aluReg .adc .e 0x8B#8 s

/-- `ADC A,H`, slot 0x8C (40_alu8 R159). -/
def execAdc_H (s : State) : Result := aluReg .adc .h 0x8C#8 s

/-- `ADC A,L`, slot 0x8D (40_alu8 R159). -/
def execAdc_L (s : State) : Result := aluReg .adc .l 0x8D#8 s

/-- `ADC A,(HL)`, slot 0x8E (40_alu8 R160). -/
def execAdc_atHL (s : State) : Result := aluAtHL .adc 0x8E#8 s

/-- `ADC A,A`, slot 0x8F (40_alu8 R159). -/
def execAdc_A (s : State) : Result := aluReg .adc .a 0x8F#8 s

/-- `SUB B`, slot 0x90 (40_alu8 R162). -/
def execSub_B (s : State) : Result := aluReg .sub .b 0x90#8 s

/-- `SUB C`, slot 0x91 (40_alu8 R162). -/
def execSub_C (s : State) : Result := aluReg .sub .c 0x91#8 s

/-- `SUB D`, slot 0x92 (40_alu8 R162). -/
def execSub_D (s : State) : Result := aluReg .sub .d 0x92#8 s

/-- `SUB E`, slot 0x93 (40_alu8 R162). -/
def execSub_E (s : State) : Result := aluReg .sub .e 0x93#8 s

/-- `SUB H`, slot 0x94 (40_alu8 R162). -/
def execSub_H (s : State) : Result := aluReg .sub .h 0x94#8 s

/-- `SUB L`, slot 0x95 (40_alu8 R162). -/
def execSub_L (s : State) : Result := aluReg .sub .l 0x95#8 s

/-- `SUB (HL)`, slot 0x96 (40_alu8 R163). -/
def execSub_atHL (s : State) : Result := aluAtHL .sub 0x96#8 s

/-- `SUB A`, slot 0x97 (40_alu8 R162). -/
def execSub_A (s : State) : Result := aluReg .sub .a 0x97#8 s

/-- `SBC A,B`, slot 0x98 (40_alu8 R165). -/
def execSbc_B (s : State) : Result := aluReg .sbc .b 0x98#8 s

/-- `SBC A,C`, slot 0x99 (40_alu8 R165). -/
def execSbc_C (s : State) : Result := aluReg .sbc .c 0x99#8 s

/-- `SBC A,D`, slot 0x9A (40_alu8 R165). -/
def execSbc_D (s : State) : Result := aluReg .sbc .d 0x9A#8 s

/-- `SBC A,E`, slot 0x9B (40_alu8 R165). -/
def execSbc_E (s : State) : Result := aluReg .sbc .e 0x9B#8 s

/-- `SBC A,H`, slot 0x9C (40_alu8 R165). -/
def execSbc_H (s : State) : Result := aluReg .sbc .h 0x9C#8 s

/-- `SBC A,L`, slot 0x9D (40_alu8 R165). -/
def execSbc_L (s : State) : Result := aluReg .sbc .l 0x9D#8 s

/-- `SBC A,(HL)`, slot 0x9E (40_alu8 R166). -/
def execSbc_atHL (s : State) : Result := aluAtHL .sbc 0x9E#8 s

/-- `SBC A,A`, slot 0x9F (40_alu8 R165). -/
def execSbc_A (s : State) : Result := aluReg .sbc .a 0x9F#8 s

/-- `AND B`, slot 0xA0 (40_alu8 R168). -/
def execAnd_B (s : State) : Result := aluReg .and .b 0xA0#8 s

/-- `AND C`, slot 0xA1 (40_alu8 R168). -/
def execAnd_C (s : State) : Result := aluReg .and .c 0xA1#8 s

/-- `AND D`, slot 0xA2 (40_alu8 R168). -/
def execAnd_D (s : State) : Result := aluReg .and .d 0xA2#8 s

/-- `AND E`, slot 0xA3 (40_alu8 R168). -/
def execAnd_E (s : State) : Result := aluReg .and .e 0xA3#8 s

/-- `AND H`, slot 0xA4 (40_alu8 R168). -/
def execAnd_H (s : State) : Result := aluReg .and .h 0xA4#8 s

/-- `AND L`, slot 0xA5 (40_alu8 R168). -/
def execAnd_L (s : State) : Result := aluReg .and .l 0xA5#8 s

/-- `AND (HL)`, slot 0xA6 (40_alu8 R169). -/
def execAnd_atHL (s : State) : Result := aluAtHL .and 0xA6#8 s

/-- `AND A`, slot 0xA7 (40_alu8 R168). -/
def execAnd_A (s : State) : Result := aluReg .and .a 0xA7#8 s

/-- `XOR B`, slot 0xA8 (40_alu8 R171). -/
def execXor_B (s : State) : Result := aluReg .xor .b 0xA8#8 s

/-- `XOR C`, slot 0xA9 (40_alu8 R171). -/
def execXor_C (s : State) : Result := aluReg .xor .c 0xA9#8 s

/-- `XOR D`, slot 0xAA (40_alu8 R171). -/
def execXor_D (s : State) : Result := aluReg .xor .d 0xAA#8 s

/-- `XOR E`, slot 0xAB (40_alu8 R171). -/
def execXor_E (s : State) : Result := aluReg .xor .e 0xAB#8 s

/-- `XOR H`, slot 0xAC (40_alu8 R171). -/
def execXor_H (s : State) : Result := aluReg .xor .h 0xAC#8 s

/-- `XOR L`, slot 0xAD (40_alu8 R171). -/
def execXor_L (s : State) : Result := aluReg .xor .l 0xAD#8 s

/-- `XOR (HL)`, slot 0xAE (40_alu8 R172). -/
def execXor_atHL (s : State) : Result := aluAtHL .xor 0xAE#8 s

/-- `XOR A`, slot 0xAF (40_alu8 R171). -/
def execXor_A (s : State) : Result := aluReg .xor .a 0xAF#8 s

/-- `OR B`, slot 0xB0 (40_alu8 R174). -/
def execOr_B (s : State) : Result := aluReg .or .b 0xB0#8 s

/-- `OR C`, slot 0xB1 (40_alu8 R174). -/
def execOr_C (s : State) : Result := aluReg .or .c 0xB1#8 s

/-- `OR D`, slot 0xB2 (40_alu8 R174). -/
def execOr_D (s : State) : Result := aluReg .or .d 0xB2#8 s

/-- `OR E`, slot 0xB3 (40_alu8 R174). -/
def execOr_E (s : State) : Result := aluReg .or .e 0xB3#8 s

/-- `OR H`, slot 0xB4 (40_alu8 R174). -/
def execOr_H (s : State) : Result := aluReg .or .h 0xB4#8 s

/-- `OR L`, slot 0xB5 (40_alu8 R174). -/
def execOr_L (s : State) : Result := aluReg .or .l 0xB5#8 s

/-- `OR (HL)`, slot 0xB6 (40_alu8 R175). -/
def execOr_atHL (s : State) : Result := aluAtHL .or 0xB6#8 s

/-- `OR A`, slot 0xB7 (40_alu8 R174). -/
def execOr_A (s : State) : Result := aluReg .or .a 0xB7#8 s

/-- `CP B`, slot 0xB8 (40_alu8 R177). -/
def execCp_B (s : State) : Result := aluReg .cp .b 0xB8#8 s

/-- `CP C`, slot 0xB9 (40_alu8 R177). -/
def execCp_C (s : State) : Result := aluReg .cp .c 0xB9#8 s

/-- `CP D`, slot 0xBA (40_alu8 R177). -/
def execCp_D (s : State) : Result := aluReg .cp .d 0xBA#8 s

/-- `CP E`, slot 0xBB (40_alu8 R177). -/
def execCp_E (s : State) : Result := aluReg .cp .e 0xBB#8 s

/-- `CP H`, slot 0xBC (40_alu8 R177). -/
def execCp_H (s : State) : Result := aluReg .cp .h 0xBC#8 s

/-- `CP L`, slot 0xBD (40_alu8 R177). -/
def execCp_L (s : State) : Result := aluReg .cp .l 0xBD#8 s

/-- `CP (HL)`, slot 0xBE (40_alu8 R178). -/
def execCp_atHL (s : State) : Result := aluAtHL .cp 0xBE#8 s

/-- `CP A`, slot 0xBF (40_alu8 R177). -/
def execCp_A (s : State) : Result := aluReg .cp .a 0xBF#8 s

/-- `ADD A,n8`, slot 0xC6 (40_alu8 R158). -/
def execAdd_n8 (n8 : Byte) (s : State) : Result := aluImm .add n8 0xC6#8 s

/-- `ADC A,n8`, slot 0xCE (40_alu8 R161). -/
def execAdc_n8 (n8 : Byte) (s : State) : Result := aluImm .adc n8 0xCE#8 s

/-- `SUB n8`, slot 0xD6 (40_alu8 R164). -/
def execSub_n8 (n8 : Byte) (s : State) : Result := aluImm .sub n8 0xD6#8 s

/-- `SBC A,n8`, slot 0xDE (40_alu8 R167). -/
def execSbc_n8 (n8 : Byte) (s : State) : Result := aluImm .sbc n8 0xDE#8 s

/-- `AND n8`, slot 0xE6 (40_alu8 R170). -/
def execAnd_n8 (n8 : Byte) (s : State) : Result := aluImm .and n8 0xE6#8 s

/-- `XOR n8`, slot 0xEE (40_alu8 R173). -/
def execXor_n8 (n8 : Byte) (s : State) : Result := aluImm .xor n8 0xEE#8 s

/-- `OR n8`, slot 0xF6 (40_alu8 R176). -/
def execOr_n8 (n8 : Byte) (s : State) : Result := aluImm .or n8 0xF6#8 s

/-- `CP n8`, slot 0xFE (40_alu8 R179). -/
def execCp_n8 (n8 : Byte) (s : State) : Result := aluImm .cp n8 0xFE#8 s

end Sys2Proof.Machine
end

