-- ==== Sys2Proof/Machine/BitOps.lean ====
section
/-! DEFINITION. BIT, RES and SET (45_rotate_bit R313 to R315). -/

namespace Sys2Proof.Machine

/-- BIT b (45_rotate_bit R313): nothing is written back. -/
def bitOperand (b : Nat) (o : Operand8) (opcode : Byte) : State → Result :=
  execSlot .extended opcode 2 fun t => do
    let v ← t.readOperand o
    .ok ((bitFlags (v.getLsbD b) t).cyc .extended opcode false (o.cycles 8 12))

/-- RES b (45_rotate_bit R314): no flag. -/
def resOperand (b : Nat) (o : Operand8) (opcode : Byte) : State → Result :=
  execSlot .extended opcode 2 fun t => do
    let v ← t.readOperand o
    let u ← t.writeOperand o (v &&& ~~~(1#8 <<< b))
    .ok (u.cyc .extended opcode false (o.cycles 8 16))

/-- SET b (45_rotate_bit R315): no flag. -/
def setOperand (b : Nat) (o : Operand8) (opcode : Byte) : State → Result :=
  execSlot .extended opcode 2 fun t => do
    let v ← t.readOperand o
    let u ← t.writeOperand o (v ||| (1#8 <<< b))
    .ok (u.cyc .extended opcode false (o.cycles 8 16))

/-- `BIT 0,B`, slot CB 40 (45_rotate_bit R313). -/
def execBit_0_B (s : State) : Result := bitOperand 0 (.reg .b) 0x40#8 s

/-- `BIT 0,C`, slot CB 41 (45_rotate_bit R313). -/
def execBit_0_C (s : State) : Result := bitOperand 0 (.reg .c) 0x41#8 s

/-- `BIT 0,D`, slot CB 42 (45_rotate_bit R313). -/
def execBit_0_D (s : State) : Result := bitOperand 0 (.reg .d) 0x42#8 s

/-- `BIT 0,E`, slot CB 43 (45_rotate_bit R313). -/
def execBit_0_E (s : State) : Result := bitOperand 0 (.reg .e) 0x43#8 s

/-- `BIT 0,H`, slot CB 44 (45_rotate_bit R313). -/
def execBit_0_H (s : State) : Result := bitOperand 0 (.reg .h) 0x44#8 s

/-- `BIT 0,L`, slot CB 45 (45_rotate_bit R313). -/
def execBit_0_L (s : State) : Result := bitOperand 0 (.reg .l) 0x45#8 s

/-- `BIT 0,(HL)`, slot CB 46 (45_rotate_bit R313). -/
def execBit_0_atHL (s : State) : Result := bitOperand 0 .atHL 0x46#8 s

/-- `BIT 0,A`, slot CB 47 (45_rotate_bit R313). -/
def execBit_0_A (s : State) : Result := bitOperand 0 (.reg .a) 0x47#8 s

/-- `BIT 1,B`, slot CB 48 (45_rotate_bit R313). -/
def execBit_1_B (s : State) : Result := bitOperand 1 (.reg .b) 0x48#8 s

/-- `BIT 1,C`, slot CB 49 (45_rotate_bit R313). -/
def execBit_1_C (s : State) : Result := bitOperand 1 (.reg .c) 0x49#8 s

/-- `BIT 1,D`, slot CB 4A (45_rotate_bit R313). -/
def execBit_1_D (s : State) : Result := bitOperand 1 (.reg .d) 0x4A#8 s

/-- `BIT 1,E`, slot CB 4B (45_rotate_bit R313). -/
def execBit_1_E (s : State) : Result := bitOperand 1 (.reg .e) 0x4B#8 s

/-- `BIT 1,H`, slot CB 4C (45_rotate_bit R313). -/
def execBit_1_H (s : State) : Result := bitOperand 1 (.reg .h) 0x4C#8 s

/-- `BIT 1,L`, slot CB 4D (45_rotate_bit R313). -/
def execBit_1_L (s : State) : Result := bitOperand 1 (.reg .l) 0x4D#8 s

/-- `BIT 1,(HL)`, slot CB 4E (45_rotate_bit R313). -/
def execBit_1_atHL (s : State) : Result := bitOperand 1 .atHL 0x4E#8 s

/-- `BIT 1,A`, slot CB 4F (45_rotate_bit R313). -/
def execBit_1_A (s : State) : Result := bitOperand 1 (.reg .a) 0x4F#8 s

/-- `BIT 2,B`, slot CB 50 (45_rotate_bit R313). -/
def execBit_2_B (s : State) : Result := bitOperand 2 (.reg .b) 0x50#8 s

/-- `BIT 2,C`, slot CB 51 (45_rotate_bit R313). -/
def execBit_2_C (s : State) : Result := bitOperand 2 (.reg .c) 0x51#8 s

/-- `BIT 2,D`, slot CB 52 (45_rotate_bit R313). -/
def execBit_2_D (s : State) : Result := bitOperand 2 (.reg .d) 0x52#8 s

/-- `BIT 2,E`, slot CB 53 (45_rotate_bit R313). -/
def execBit_2_E (s : State) : Result := bitOperand 2 (.reg .e) 0x53#8 s

/-- `BIT 2,H`, slot CB 54 (45_rotate_bit R313). -/
def execBit_2_H (s : State) : Result := bitOperand 2 (.reg .h) 0x54#8 s

/-- `BIT 2,L`, slot CB 55 (45_rotate_bit R313). -/
def execBit_2_L (s : State) : Result := bitOperand 2 (.reg .l) 0x55#8 s

/-- `BIT 2,(HL)`, slot CB 56 (45_rotate_bit R313). -/
def execBit_2_atHL (s : State) : Result := bitOperand 2 .atHL 0x56#8 s

/-- `BIT 2,A`, slot CB 57 (45_rotate_bit R313). -/
def execBit_2_A (s : State) : Result := bitOperand 2 (.reg .a) 0x57#8 s

/-- `BIT 3,B`, slot CB 58 (45_rotate_bit R313). -/
def execBit_3_B (s : State) : Result := bitOperand 3 (.reg .b) 0x58#8 s

/-- `BIT 3,C`, slot CB 59 (45_rotate_bit R313). -/
def execBit_3_C (s : State) : Result := bitOperand 3 (.reg .c) 0x59#8 s

/-- `BIT 3,D`, slot CB 5A (45_rotate_bit R313). -/
def execBit_3_D (s : State) : Result := bitOperand 3 (.reg .d) 0x5A#8 s

/-- `BIT 3,E`, slot CB 5B (45_rotate_bit R313). -/
def execBit_3_E (s : State) : Result := bitOperand 3 (.reg .e) 0x5B#8 s

/-- `BIT 3,H`, slot CB 5C (45_rotate_bit R313). -/
def execBit_3_H (s : State) : Result := bitOperand 3 (.reg .h) 0x5C#8 s

/-- `BIT 3,L`, slot CB 5D (45_rotate_bit R313). -/
def execBit_3_L (s : State) : Result := bitOperand 3 (.reg .l) 0x5D#8 s

/-- `BIT 3,(HL)`, slot CB 5E (45_rotate_bit R313). -/
def execBit_3_atHL (s : State) : Result := bitOperand 3 .atHL 0x5E#8 s

/-- `BIT 3,A`, slot CB 5F (45_rotate_bit R313). -/
def execBit_3_A (s : State) : Result := bitOperand 3 (.reg .a) 0x5F#8 s

/-- `BIT 4,B`, slot CB 60 (45_rotate_bit R313). -/
def execBit_4_B (s : State) : Result := bitOperand 4 (.reg .b) 0x60#8 s

/-- `BIT 4,C`, slot CB 61 (45_rotate_bit R313). -/
def execBit_4_C (s : State) : Result := bitOperand 4 (.reg .c) 0x61#8 s

/-- `BIT 4,D`, slot CB 62 (45_rotate_bit R313). -/
def execBit_4_D (s : State) : Result := bitOperand 4 (.reg .d) 0x62#8 s

/-- `BIT 4,E`, slot CB 63 (45_rotate_bit R313). -/
def execBit_4_E (s : State) : Result := bitOperand 4 (.reg .e) 0x63#8 s

/-- `BIT 4,H`, slot CB 64 (45_rotate_bit R313). -/
def execBit_4_H (s : State) : Result := bitOperand 4 (.reg .h) 0x64#8 s

/-- `BIT 4,L`, slot CB 65 (45_rotate_bit R313). -/
def execBit_4_L (s : State) : Result := bitOperand 4 (.reg .l) 0x65#8 s

/-- `BIT 4,(HL)`, slot CB 66 (45_rotate_bit R313). -/
def execBit_4_atHL (s : State) : Result := bitOperand 4 .atHL 0x66#8 s

/-- `BIT 4,A`, slot CB 67 (45_rotate_bit R313). -/
def execBit_4_A (s : State) : Result := bitOperand 4 (.reg .a) 0x67#8 s

/-- `BIT 5,B`, slot CB 68 (45_rotate_bit R313). -/
def execBit_5_B (s : State) : Result := bitOperand 5 (.reg .b) 0x68#8 s

/-- `BIT 5,C`, slot CB 69 (45_rotate_bit R313). -/
def execBit_5_C (s : State) : Result := bitOperand 5 (.reg .c) 0x69#8 s

/-- `BIT 5,D`, slot CB 6A (45_rotate_bit R313). -/
def execBit_5_D (s : State) : Result := bitOperand 5 (.reg .d) 0x6A#8 s

/-- `BIT 5,E`, slot CB 6B (45_rotate_bit R313). -/
def execBit_5_E (s : State) : Result := bitOperand 5 (.reg .e) 0x6B#8 s

/-- `BIT 5,H`, slot CB 6C (45_rotate_bit R313). -/
def execBit_5_H (s : State) : Result := bitOperand 5 (.reg .h) 0x6C#8 s

/-- `BIT 5,L`, slot CB 6D (45_rotate_bit R313). -/
def execBit_5_L (s : State) : Result := bitOperand 5 (.reg .l) 0x6D#8 s

/-- `BIT 5,(HL)`, slot CB 6E (45_rotate_bit R313). -/
def execBit_5_atHL (s : State) : Result := bitOperand 5 .atHL 0x6E#8 s

/-- `BIT 5,A`, slot CB 6F (45_rotate_bit R313). -/
def execBit_5_A (s : State) : Result := bitOperand 5 (.reg .a) 0x6F#8 s

/-- `BIT 6,B`, slot CB 70 (45_rotate_bit R313). -/
def execBit_6_B (s : State) : Result := bitOperand 6 (.reg .b) 0x70#8 s

/-- `BIT 6,C`, slot CB 71 (45_rotate_bit R313). -/
def execBit_6_C (s : State) : Result := bitOperand 6 (.reg .c) 0x71#8 s

/-- `BIT 6,D`, slot CB 72 (45_rotate_bit R313). -/
def execBit_6_D (s : State) : Result := bitOperand 6 (.reg .d) 0x72#8 s

/-- `BIT 6,E`, slot CB 73 (45_rotate_bit R313). -/
def execBit_6_E (s : State) : Result := bitOperand 6 (.reg .e) 0x73#8 s

/-- `BIT 6,H`, slot CB 74 (45_rotate_bit R313). -/
def execBit_6_H (s : State) : Result := bitOperand 6 (.reg .h) 0x74#8 s

/-- `BIT 6,L`, slot CB 75 (45_rotate_bit R313). -/
def execBit_6_L (s : State) : Result := bitOperand 6 (.reg .l) 0x75#8 s

/-- `BIT 6,(HL)`, slot CB 76 (45_rotate_bit R313). -/
def execBit_6_atHL (s : State) : Result := bitOperand 6 .atHL 0x76#8 s

/-- `BIT 6,A`, slot CB 77 (45_rotate_bit R313). -/
def execBit_6_A (s : State) : Result := bitOperand 6 (.reg .a) 0x77#8 s

/-- `BIT 7,B`, slot CB 78 (45_rotate_bit R313). -/
def execBit_7_B (s : State) : Result := bitOperand 7 (.reg .b) 0x78#8 s

/-- `BIT 7,C`, slot CB 79 (45_rotate_bit R313). -/
def execBit_7_C (s : State) : Result := bitOperand 7 (.reg .c) 0x79#8 s

/-- `BIT 7,D`, slot CB 7A (45_rotate_bit R313). -/
def execBit_7_D (s : State) : Result := bitOperand 7 (.reg .d) 0x7A#8 s

/-- `BIT 7,E`, slot CB 7B (45_rotate_bit R313). -/
def execBit_7_E (s : State) : Result := bitOperand 7 (.reg .e) 0x7B#8 s

/-- `BIT 7,H`, slot CB 7C (45_rotate_bit R313). -/
def execBit_7_H (s : State) : Result := bitOperand 7 (.reg .h) 0x7C#8 s

/-- `BIT 7,L`, slot CB 7D (45_rotate_bit R313). -/
def execBit_7_L (s : State) : Result := bitOperand 7 (.reg .l) 0x7D#8 s

/-- `BIT 7,(HL)`, slot CB 7E (45_rotate_bit R313). -/
def execBit_7_atHL (s : State) : Result := bitOperand 7 .atHL 0x7E#8 s

/-- `BIT 7,A`, slot CB 7F (45_rotate_bit R313). -/
def execBit_7_A (s : State) : Result := bitOperand 7 (.reg .a) 0x7F#8 s

/-- `RES 0,B`, slot CB 80 (45_rotate_bit R314). -/
def execRes_0_B (s : State) : Result := resOperand 0 (.reg .b) 0x80#8 s

/-- `RES 0,C`, slot CB 81 (45_rotate_bit R314). -/
def execRes_0_C (s : State) : Result := resOperand 0 (.reg .c) 0x81#8 s

/-- `RES 0,D`, slot CB 82 (45_rotate_bit R314). -/
def execRes_0_D (s : State) : Result := resOperand 0 (.reg .d) 0x82#8 s

/-- `RES 0,E`, slot CB 83 (45_rotate_bit R314). -/
def execRes_0_E (s : State) : Result := resOperand 0 (.reg .e) 0x83#8 s

/-- `RES 0,H`, slot CB 84 (45_rotate_bit R314). -/
def execRes_0_H (s : State) : Result := resOperand 0 (.reg .h) 0x84#8 s

/-- `RES 0,L`, slot CB 85 (45_rotate_bit R314). -/
def execRes_0_L (s : State) : Result := resOperand 0 (.reg .l) 0x85#8 s

/-- `RES 0,(HL)`, slot CB 86 (45_rotate_bit R314). -/
def execRes_0_atHL (s : State) : Result := resOperand 0 .atHL 0x86#8 s

/-- `RES 0,A`, slot CB 87 (45_rotate_bit R314). -/
def execRes_0_A (s : State) : Result := resOperand 0 (.reg .a) 0x87#8 s

/-- `RES 1,B`, slot CB 88 (45_rotate_bit R314). -/
def execRes_1_B (s : State) : Result := resOperand 1 (.reg .b) 0x88#8 s

/-- `RES 1,C`, slot CB 89 (45_rotate_bit R314). -/
def execRes_1_C (s : State) : Result := resOperand 1 (.reg .c) 0x89#8 s

/-- `RES 1,D`, slot CB 8A (45_rotate_bit R314). -/
def execRes_1_D (s : State) : Result := resOperand 1 (.reg .d) 0x8A#8 s

/-- `RES 1,E`, slot CB 8B (45_rotate_bit R314). -/
def execRes_1_E (s : State) : Result := resOperand 1 (.reg .e) 0x8B#8 s

/-- `RES 1,H`, slot CB 8C (45_rotate_bit R314). -/
def execRes_1_H (s : State) : Result := resOperand 1 (.reg .h) 0x8C#8 s

/-- `RES 1,L`, slot CB 8D (45_rotate_bit R314). -/
def execRes_1_L (s : State) : Result := resOperand 1 (.reg .l) 0x8D#8 s

/-- `RES 1,(HL)`, slot CB 8E (45_rotate_bit R314). -/
def execRes_1_atHL (s : State) : Result := resOperand 1 .atHL 0x8E#8 s

/-- `RES 1,A`, slot CB 8F (45_rotate_bit R314). -/
def execRes_1_A (s : State) : Result := resOperand 1 (.reg .a) 0x8F#8 s

/-- `RES 2,B`, slot CB 90 (45_rotate_bit R314). -/
def execRes_2_B (s : State) : Result := resOperand 2 (.reg .b) 0x90#8 s

/-- `RES 2,C`, slot CB 91 (45_rotate_bit R314). -/
def execRes_2_C (s : State) : Result := resOperand 2 (.reg .c) 0x91#8 s

/-- `RES 2,D`, slot CB 92 (45_rotate_bit R314). -/
def execRes_2_D (s : State) : Result := resOperand 2 (.reg .d) 0x92#8 s

/-- `RES 2,E`, slot CB 93 (45_rotate_bit R314). -/
def execRes_2_E (s : State) : Result := resOperand 2 (.reg .e) 0x93#8 s

/-- `RES 2,H`, slot CB 94 (45_rotate_bit R314). -/
def execRes_2_H (s : State) : Result := resOperand 2 (.reg .h) 0x94#8 s

/-- `RES 2,L`, slot CB 95 (45_rotate_bit R314). -/
def execRes_2_L (s : State) : Result := resOperand 2 (.reg .l) 0x95#8 s

/-- `RES 2,(HL)`, slot CB 96 (45_rotate_bit R314). -/
def execRes_2_atHL (s : State) : Result := resOperand 2 .atHL 0x96#8 s

/-- `RES 2,A`, slot CB 97 (45_rotate_bit R314). -/
def execRes_2_A (s : State) : Result := resOperand 2 (.reg .a) 0x97#8 s

/-- `RES 3,B`, slot CB 98 (45_rotate_bit R314). -/
def execRes_3_B (s : State) : Result := resOperand 3 (.reg .b) 0x98#8 s

/-- `RES 3,C`, slot CB 99 (45_rotate_bit R314). -/
def execRes_3_C (s : State) : Result := resOperand 3 (.reg .c) 0x99#8 s

/-- `RES 3,D`, slot CB 9A (45_rotate_bit R314). -/
def execRes_3_D (s : State) : Result := resOperand 3 (.reg .d) 0x9A#8 s

/-- `RES 3,E`, slot CB 9B (45_rotate_bit R314). -/
def execRes_3_E (s : State) : Result := resOperand 3 (.reg .e) 0x9B#8 s

/-- `RES 3,H`, slot CB 9C (45_rotate_bit R314). -/
def execRes_3_H (s : State) : Result := resOperand 3 (.reg .h) 0x9C#8 s

/-- `RES 3,L`, slot CB 9D (45_rotate_bit R314). -/
def execRes_3_L (s : State) : Result := resOperand 3 (.reg .l) 0x9D#8 s

/-- `RES 3,(HL)`, slot CB 9E (45_rotate_bit R314). -/
def execRes_3_atHL (s : State) : Result := resOperand 3 .atHL 0x9E#8 s

/-- `RES 3,A`, slot CB 9F (45_rotate_bit R314). -/
def execRes_3_A (s : State) : Result := resOperand 3 (.reg .a) 0x9F#8 s

/-- `RES 4,B`, slot CB A0 (45_rotate_bit R314). -/
def execRes_4_B (s : State) : Result := resOperand 4 (.reg .b) 0xA0#8 s

/-- `RES 4,C`, slot CB A1 (45_rotate_bit R314). -/
def execRes_4_C (s : State) : Result := resOperand 4 (.reg .c) 0xA1#8 s

/-- `RES 4,D`, slot CB A2 (45_rotate_bit R314). -/
def execRes_4_D (s : State) : Result := resOperand 4 (.reg .d) 0xA2#8 s

/-- `RES 4,E`, slot CB A3 (45_rotate_bit R314). -/
def execRes_4_E (s : State) : Result := resOperand 4 (.reg .e) 0xA3#8 s

/-- `RES 4,H`, slot CB A4 (45_rotate_bit R314). -/
def execRes_4_H (s : State) : Result := resOperand 4 (.reg .h) 0xA4#8 s

/-- `RES 4,L`, slot CB A5 (45_rotate_bit R314). -/
def execRes_4_L (s : State) : Result := resOperand 4 (.reg .l) 0xA5#8 s

/-- `RES 4,(HL)`, slot CB A6 (45_rotate_bit R314). -/
def execRes_4_atHL (s : State) : Result := resOperand 4 .atHL 0xA6#8 s

/-- `RES 4,A`, slot CB A7 (45_rotate_bit R314). -/
def execRes_4_A (s : State) : Result := resOperand 4 (.reg .a) 0xA7#8 s

/-- `RES 5,B`, slot CB A8 (45_rotate_bit R314). -/
def execRes_5_B (s : State) : Result := resOperand 5 (.reg .b) 0xA8#8 s

/-- `RES 5,C`, slot CB A9 (45_rotate_bit R314). -/
def execRes_5_C (s : State) : Result := resOperand 5 (.reg .c) 0xA9#8 s

/-- `RES 5,D`, slot CB AA (45_rotate_bit R314). -/
def execRes_5_D (s : State) : Result := resOperand 5 (.reg .d) 0xAA#8 s

/-- `RES 5,E`, slot CB AB (45_rotate_bit R314). -/
def execRes_5_E (s : State) : Result := resOperand 5 (.reg .e) 0xAB#8 s

/-- `RES 5,H`, slot CB AC (45_rotate_bit R314). -/
def execRes_5_H (s : State) : Result := resOperand 5 (.reg .h) 0xAC#8 s

/-- `RES 5,L`, slot CB AD (45_rotate_bit R314). -/
def execRes_5_L (s : State) : Result := resOperand 5 (.reg .l) 0xAD#8 s

/-- `RES 5,(HL)`, slot CB AE (45_rotate_bit R314). -/
def execRes_5_atHL (s : State) : Result := resOperand 5 .atHL 0xAE#8 s

/-- `RES 5,A`, slot CB AF (45_rotate_bit R314). -/
def execRes_5_A (s : State) : Result := resOperand 5 (.reg .a) 0xAF#8 s

/-- `RES 6,B`, slot CB B0 (45_rotate_bit R314). -/
def execRes_6_B (s : State) : Result := resOperand 6 (.reg .b) 0xB0#8 s

/-- `RES 6,C`, slot CB B1 (45_rotate_bit R314). -/
def execRes_6_C (s : State) : Result := resOperand 6 (.reg .c) 0xB1#8 s

/-- `RES 6,D`, slot CB B2 (45_rotate_bit R314). -/
def execRes_6_D (s : State) : Result := resOperand 6 (.reg .d) 0xB2#8 s

/-- `RES 6,E`, slot CB B3 (45_rotate_bit R314). -/
def execRes_6_E (s : State) : Result := resOperand 6 (.reg .e) 0xB3#8 s

/-- `RES 6,H`, slot CB B4 (45_rotate_bit R314). -/
def execRes_6_H (s : State) : Result := resOperand 6 (.reg .h) 0xB4#8 s

/-- `RES 6,L`, slot CB B5 (45_rotate_bit R314). -/
def execRes_6_L (s : State) : Result := resOperand 6 (.reg .l) 0xB5#8 s

/-- `RES 6,(HL)`, slot CB B6 (45_rotate_bit R314). -/
def execRes_6_atHL (s : State) : Result := resOperand 6 .atHL 0xB6#8 s

/-- `RES 6,A`, slot CB B7 (45_rotate_bit R314). -/
def execRes_6_A (s : State) : Result := resOperand 6 (.reg .a) 0xB7#8 s

/-- `RES 7,B`, slot CB B8 (45_rotate_bit R314). -/
def execRes_7_B (s : State) : Result := resOperand 7 (.reg .b) 0xB8#8 s

/-- `RES 7,C`, slot CB B9 (45_rotate_bit R314). -/
def execRes_7_C (s : State) : Result := resOperand 7 (.reg .c) 0xB9#8 s

/-- `RES 7,D`, slot CB BA (45_rotate_bit R314). -/
def execRes_7_D (s : State) : Result := resOperand 7 (.reg .d) 0xBA#8 s

/-- `RES 7,E`, slot CB BB (45_rotate_bit R314). -/
def execRes_7_E (s : State) : Result := resOperand 7 (.reg .e) 0xBB#8 s

/-- `RES 7,H`, slot CB BC (45_rotate_bit R314). -/
def execRes_7_H (s : State) : Result := resOperand 7 (.reg .h) 0xBC#8 s

/-- `RES 7,L`, slot CB BD (45_rotate_bit R314). -/
def execRes_7_L (s : State) : Result := resOperand 7 (.reg .l) 0xBD#8 s

/-- `RES 7,(HL)`, slot CB BE (45_rotate_bit R314). -/
def execRes_7_atHL (s : State) : Result := resOperand 7 .atHL 0xBE#8 s

/-- `RES 7,A`, slot CB BF (45_rotate_bit R314). -/
def execRes_7_A (s : State) : Result := resOperand 7 (.reg .a) 0xBF#8 s

/-- `SET 0,B`, slot CB C0 (45_rotate_bit R315). -/
def execSet_0_B (s : State) : Result := setOperand 0 (.reg .b) 0xC0#8 s

/-- `SET 0,C`, slot CB C1 (45_rotate_bit R315). -/
def execSet_0_C (s : State) : Result := setOperand 0 (.reg .c) 0xC1#8 s

/-- `SET 0,D`, slot CB C2 (45_rotate_bit R315). -/
def execSet_0_D (s : State) : Result := setOperand 0 (.reg .d) 0xC2#8 s

/-- `SET 0,E`, slot CB C3 (45_rotate_bit R315). -/
def execSet_0_E (s : State) : Result := setOperand 0 (.reg .e) 0xC3#8 s

/-- `SET 0,H`, slot CB C4 (45_rotate_bit R315). -/
def execSet_0_H (s : State) : Result := setOperand 0 (.reg .h) 0xC4#8 s

/-- `SET 0,L`, slot CB C5 (45_rotate_bit R315). -/
def execSet_0_L (s : State) : Result := setOperand 0 (.reg .l) 0xC5#8 s

/-- `SET 0,(HL)`, slot CB C6 (45_rotate_bit R315). -/
def execSet_0_atHL (s : State) : Result := setOperand 0 .atHL 0xC6#8 s

/-- `SET 0,A`, slot CB C7 (45_rotate_bit R315). -/
def execSet_0_A (s : State) : Result := setOperand 0 (.reg .a) 0xC7#8 s

/-- `SET 1,B`, slot CB C8 (45_rotate_bit R315). -/
def execSet_1_B (s : State) : Result := setOperand 1 (.reg .b) 0xC8#8 s

/-- `SET 1,C`, slot CB C9 (45_rotate_bit R315). -/
def execSet_1_C (s : State) : Result := setOperand 1 (.reg .c) 0xC9#8 s

/-- `SET 1,D`, slot CB CA (45_rotate_bit R315). -/
def execSet_1_D (s : State) : Result := setOperand 1 (.reg .d) 0xCA#8 s

/-- `SET 1,E`, slot CB CB (45_rotate_bit R315). -/
def execSet_1_E (s : State) : Result := setOperand 1 (.reg .e) 0xCB#8 s

/-- `SET 1,H`, slot CB CC (45_rotate_bit R315). -/
def execSet_1_H (s : State) : Result := setOperand 1 (.reg .h) 0xCC#8 s

/-- `SET 1,L`, slot CB CD (45_rotate_bit R315). -/
def execSet_1_L (s : State) : Result := setOperand 1 (.reg .l) 0xCD#8 s

/-- `SET 1,(HL)`, slot CB CE (45_rotate_bit R315). -/
def execSet_1_atHL (s : State) : Result := setOperand 1 .atHL 0xCE#8 s

/-- `SET 1,A`, slot CB CF (45_rotate_bit R315). -/
def execSet_1_A (s : State) : Result := setOperand 1 (.reg .a) 0xCF#8 s

/-- `SET 2,B`, slot CB D0 (45_rotate_bit R315). -/
def execSet_2_B (s : State) : Result := setOperand 2 (.reg .b) 0xD0#8 s

/-- `SET 2,C`, slot CB D1 (45_rotate_bit R315). -/
def execSet_2_C (s : State) : Result := setOperand 2 (.reg .c) 0xD1#8 s

/-- `SET 2,D`, slot CB D2 (45_rotate_bit R315). -/
def execSet_2_D (s : State) : Result := setOperand 2 (.reg .d) 0xD2#8 s

/-- `SET 2,E`, slot CB D3 (45_rotate_bit R315). -/
def execSet_2_E (s : State) : Result := setOperand 2 (.reg .e) 0xD3#8 s

/-- `SET 2,H`, slot CB D4 (45_rotate_bit R315). -/
def execSet_2_H (s : State) : Result := setOperand 2 (.reg .h) 0xD4#8 s

/-- `SET 2,L`, slot CB D5 (45_rotate_bit R315). -/
def execSet_2_L (s : State) : Result := setOperand 2 (.reg .l) 0xD5#8 s

/-- `SET 2,(HL)`, slot CB D6 (45_rotate_bit R315). -/
def execSet_2_atHL (s : State) : Result := setOperand 2 .atHL 0xD6#8 s

/-- `SET 2,A`, slot CB D7 (45_rotate_bit R315). -/
def execSet_2_A (s : State) : Result := setOperand 2 (.reg .a) 0xD7#8 s

/-- `SET 3,B`, slot CB D8 (45_rotate_bit R315). -/
def execSet_3_B (s : State) : Result := setOperand 3 (.reg .b) 0xD8#8 s

/-- `SET 3,C`, slot CB D9 (45_rotate_bit R315). -/
def execSet_3_C (s : State) : Result := setOperand 3 (.reg .c) 0xD9#8 s

/-- `SET 3,D`, slot CB DA (45_rotate_bit R315). -/
def execSet_3_D (s : State) : Result := setOperand 3 (.reg .d) 0xDA#8 s

/-- `SET 3,E`, slot CB DB (45_rotate_bit R315). -/
def execSet_3_E (s : State) : Result := setOperand 3 (.reg .e) 0xDB#8 s

/-- `SET 3,H`, slot CB DC (45_rotate_bit R315). -/
def execSet_3_H (s : State) : Result := setOperand 3 (.reg .h) 0xDC#8 s

/-- `SET 3,L`, slot CB DD (45_rotate_bit R315). -/
def execSet_3_L (s : State) : Result := setOperand 3 (.reg .l) 0xDD#8 s

/-- `SET 3,(HL)`, slot CB DE (45_rotate_bit R315). -/
def execSet_3_atHL (s : State) : Result := setOperand 3 .atHL 0xDE#8 s

/-- `SET 3,A`, slot CB DF (45_rotate_bit R315). -/
def execSet_3_A (s : State) : Result := setOperand 3 (.reg .a) 0xDF#8 s

/-- `SET 4,B`, slot CB E0 (45_rotate_bit R315). -/
def execSet_4_B (s : State) : Result := setOperand 4 (.reg .b) 0xE0#8 s

/-- `SET 4,C`, slot CB E1 (45_rotate_bit R315). -/
def execSet_4_C (s : State) : Result := setOperand 4 (.reg .c) 0xE1#8 s

/-- `SET 4,D`, slot CB E2 (45_rotate_bit R315). -/
def execSet_4_D (s : State) : Result := setOperand 4 (.reg .d) 0xE2#8 s

/-- `SET 4,E`, slot CB E3 (45_rotate_bit R315). -/
def execSet_4_E (s : State) : Result := setOperand 4 (.reg .e) 0xE3#8 s

/-- `SET 4,H`, slot CB E4 (45_rotate_bit R315). -/
def execSet_4_H (s : State) : Result := setOperand 4 (.reg .h) 0xE4#8 s

/-- `SET 4,L`, slot CB E5 (45_rotate_bit R315). -/
def execSet_4_L (s : State) : Result := setOperand 4 (.reg .l) 0xE5#8 s

/-- `SET 4,(HL)`, slot CB E6 (45_rotate_bit R315). -/
def execSet_4_atHL (s : State) : Result := setOperand 4 .atHL 0xE6#8 s

/-- `SET 4,A`, slot CB E7 (45_rotate_bit R315). -/
def execSet_4_A (s : State) : Result := setOperand 4 (.reg .a) 0xE7#8 s

/-- `SET 5,B`, slot CB E8 (45_rotate_bit R315). -/
def execSet_5_B (s : State) : Result := setOperand 5 (.reg .b) 0xE8#8 s

/-- `SET 5,C`, slot CB E9 (45_rotate_bit R315). -/
def execSet_5_C (s : State) : Result := setOperand 5 (.reg .c) 0xE9#8 s

/-- `SET 5,D`, slot CB EA (45_rotate_bit R315). -/
def execSet_5_D (s : State) : Result := setOperand 5 (.reg .d) 0xEA#8 s

/-- `SET 5,E`, slot CB EB (45_rotate_bit R315). -/
def execSet_5_E (s : State) : Result := setOperand 5 (.reg .e) 0xEB#8 s

/-- `SET 5,H`, slot CB EC (45_rotate_bit R315). -/
def execSet_5_H (s : State) : Result := setOperand 5 (.reg .h) 0xEC#8 s

/-- `SET 5,L`, slot CB ED (45_rotate_bit R315). -/
def execSet_5_L (s : State) : Result := setOperand 5 (.reg .l) 0xED#8 s

/-- `SET 5,(HL)`, slot CB EE (45_rotate_bit R315). -/
def execSet_5_atHL (s : State) : Result := setOperand 5 .atHL 0xEE#8 s

/-- `SET 5,A`, slot CB EF (45_rotate_bit R315). -/
def execSet_5_A (s : State) : Result := setOperand 5 (.reg .a) 0xEF#8 s

/-- `SET 6,B`, slot CB F0 (45_rotate_bit R315). -/
def execSet_6_B (s : State) : Result := setOperand 6 (.reg .b) 0xF0#8 s

/-- `SET 6,C`, slot CB F1 (45_rotate_bit R315). -/
def execSet_6_C (s : State) : Result := setOperand 6 (.reg .c) 0xF1#8 s

/-- `SET 6,D`, slot CB F2 (45_rotate_bit R315). -/
def execSet_6_D (s : State) : Result := setOperand 6 (.reg .d) 0xF2#8 s

/-- `SET 6,E`, slot CB F3 (45_rotate_bit R315). -/
def execSet_6_E (s : State) : Result := setOperand 6 (.reg .e) 0xF3#8 s

/-- `SET 6,H`, slot CB F4 (45_rotate_bit R315). -/
def execSet_6_H (s : State) : Result := setOperand 6 (.reg .h) 0xF4#8 s

/-- `SET 6,L`, slot CB F5 (45_rotate_bit R315). -/
def execSet_6_L (s : State) : Result := setOperand 6 (.reg .l) 0xF5#8 s

/-- `SET 6,(HL)`, slot CB F6 (45_rotate_bit R315). -/
def execSet_6_atHL (s : State) : Result := setOperand 6 .atHL 0xF6#8 s

/-- `SET 6,A`, slot CB F7 (45_rotate_bit R315). -/
def execSet_6_A (s : State) : Result := setOperand 6 (.reg .a) 0xF7#8 s

/-- `SET 7,B`, slot CB F8 (45_rotate_bit R315). -/
def execSet_7_B (s : State) : Result := setOperand 7 (.reg .b) 0xF8#8 s

/-- `SET 7,C`, slot CB F9 (45_rotate_bit R315). -/
def execSet_7_C (s : State) : Result := setOperand 7 (.reg .c) 0xF9#8 s

/-- `SET 7,D`, slot CB FA (45_rotate_bit R315). -/
def execSet_7_D (s : State) : Result := setOperand 7 (.reg .d) 0xFA#8 s

/-- `SET 7,E`, slot CB FB (45_rotate_bit R315). -/
def execSet_7_E (s : State) : Result := setOperand 7 (.reg .e) 0xFB#8 s

/-- `SET 7,H`, slot CB FC (45_rotate_bit R315). -/
def execSet_7_H (s : State) : Result := setOperand 7 (.reg .h) 0xFC#8 s

/-- `SET 7,L`, slot CB FD (45_rotate_bit R315). -/
def execSet_7_L (s : State) : Result := setOperand 7 (.reg .l) 0xFD#8 s

/-- `SET 7,(HL)`, slot CB FE (45_rotate_bit R315). -/
def execSet_7_atHL (s : State) : Result := setOperand 7 .atHL 0xFE#8 s

/-- `SET 7,A`, slot CB FF (45_rotate_bit R315). -/
def execSet_7_A (s : State) : Result := setOperand 7 (.reg .a) 0xFF#8 s

end Sys2Proof.Machine
end

