-- ==== Sys2Proof/Machine/Control.lean ====
section
/-! DEFINITION. The stack instructions and the control transfers (42_control_stack R223 to R240). In every operation
below `t.pc` is the address of the next instruction, the operand bytes having been passed (R241). -/

namespace Sys2Proof.Machine

/-- PC <- target (10_state R28). -/
def State.jump (s : State) (target : Addr) : State := { s with pc := target }

/-- The return address goes to the stack and PC to the target (42_control_stack R235, R240). -/
def State.call (s : State) (target : Addr) : Micro State := do
  let u ← s.push16 s.pc
  .ok (u.jump target)

/-- PC comes back from the stack (42_control_stack R237). -/
def State.ret (s : State) : Micro State := do
  let (target, u) ← s.pop16
  .ok (u.jump target)

/-- PUSH (42_control_stack R223, R225). -/
def pushStk (r : Stk16) (opcode : Byte) : State → Result :=
  execSlot .primary opcode 1 fun t => do
    let u ← t.push16 (t.stk r)
    .ok (u.cyc .primary opcode false 16)

/-- POP (42_control_stack R227, R229). -/
def popStk (r : Stk16) (opcode : Byte) : State → Result :=
  execSlot .primary opcode 1 fun t => do
    let (v, u) ← t.pop16
    .ok ((u.setStk r v).cyc .primary opcode false 12)

/-- JR e8 (42_control_stack R230). -/
def jrAlways (e8 : Byte) (opcode : Byte) : State → Result :=
  execSlot .primary opcode 2 fun t => .ok ((t.jump (t.pc + sext16 e8)).cyc .primary opcode false 12)

/-- JR cond,e8 (42_control_stack R231). -/
def jrCond (k : Cond) (e8 : Byte) (opcode : Byte) : State → Result :=
  execSlot .primary opcode 2 fun t =>
    if k.holds t then .ok ((t.jump (t.pc + sext16 e8)).cyc .primary opcode true 12)
    else .ok (t.cyc .primary opcode false 8)

/-- JP n16 (42_control_stack R232). -/
def jpAlways (n16 : Addr) (opcode : Byte) : State → Result :=
  execSlot .primary opcode 3 fun t => .ok ((t.jump n16).cyc .primary opcode false 16)

/-- JP cond,n16 (42_control_stack R233). -/
def jpCond (k : Cond) (n16 : Addr) (opcode : Byte) : State → Result :=
  execSlot .primary opcode 3 fun t =>
    if k.holds t then .ok ((t.jump n16).cyc .primary opcode true 16)
    else .ok (t.cyc .primary opcode false 12)

/-- JP HL (42_control_stack R234). -/
def jpHL (opcode : Byte) : State → Result :=
  execSlot .primary opcode 1 fun t => .ok ((t.jump t.hl).cyc .primary opcode false 4)

/-- CALL n16 (42_control_stack R235). -/
def callAlways (n16 : Addr) (opcode : Byte) : State → Result :=
  execSlot .primary opcode 3 fun t => do
    let u ← t.call n16
    .ok (u.cyc .primary opcode false 24)

/-- CALL cond,n16 (42_control_stack R236). -/
def callCond (k : Cond) (n16 : Addr) (opcode : Byte) : State → Result :=
  execSlot .primary opcode 3 fun t =>
    if k.holds t then do
      let u ← t.call n16
      .ok (u.cyc .primary opcode true 24)
    else .ok (t.cyc .primary opcode false 12)

/-- RET, and RETI where the profile models it (42_control_stack R237, R239). -/
def retAlways (opcode : Byte) : State → Result :=
  execSlot .primary opcode 1 fun t => do
    let u ← t.ret
    .ok (u.cyc .primary opcode false 16)

/-- RET cond (42_control_stack R238). -/
def retCond (k : Cond) (opcode : Byte) : State → Result :=
  execSlot .primary opcode 1 fun t =>
    if k.holds t then do
      let u ← t.ret
      .ok (u.cyc .primary opcode true 20)
    else .ok (t.cyc .primary opcode false 8)

/-- RST (42_control_stack R240). -/
def restart (target : Addr) (opcode : Byte) : State → Result :=
  execSlot .primary opcode 1 fun t => do
    let u ← t.call target
    .ok (u.cyc .primary opcode false 16)

/-- `JR e8`, slot 0x18 (42_control_stack R230). -/
def execJr_e8 (e8 : Byte) (s : State) : Result := jrAlways e8 0x18#8 s

/-- `JR NZ,e8`, slot 0x20 (42_control_stack R231). -/
def execJr_NZ_e8 (e8 : Byte) (s : State) : Result := jrCond .nz e8 0x20#8 s

/-- `JR Z,e8`, slot 0x28 (42_control_stack R231). -/
def execJr_Z_e8 (e8 : Byte) (s : State) : Result := jrCond .z e8 0x28#8 s

/-- `JR NC,e8`, slot 0x30 (42_control_stack R231). -/
def execJr_NC_e8 (e8 : Byte) (s : State) : Result := jrCond .nc e8 0x30#8 s

/-- `JR C,e8`, slot 0x38 (42_control_stack R231). -/
def execJr_C_e8 (e8 : Byte) (s : State) : Result := jrCond .c e8 0x38#8 s

/-- `RET NZ`, slot 0xC0 (42_control_stack R238). -/
def execRet_NZ (s : State) : Result := retCond .nz 0xC0#8 s

/-- `POP BC`, slot 0xC1 (42_control_stack R227). -/
def execPop_BC (s : State) : Result := popStk .bc 0xC1#8 s

/-- `JP NZ,n16`, slot 0xC2 (42_control_stack R233). -/
def execJp_NZ_n16 (n16 : Addr) (s : State) : Result := jpCond .nz n16 0xC2#8 s

/-- `JP n16`, slot 0xC3 (42_control_stack R232). -/
def execJp_n16 (n16 : Addr) (s : State) : Result := jpAlways n16 0xC3#8 s

/-- `CALL NZ,n16`, slot 0xC4 (42_control_stack R236). -/
def execCall_NZ_n16 (n16 : Addr) (s : State) : Result := callCond .nz n16 0xC4#8 s

/-- `PUSH BC`, slot 0xC5 (42_control_stack R223). -/
def execPush_BC (s : State) : Result := pushStk .bc 0xC5#8 s

/-- `RST 0x00`, slot 0xC7 (42_control_stack R240). -/
def execRst_00 (s : State) : Result := restart 0x0000#16 0xC7#8 s

/-- `RET Z`, slot 0xC8 (42_control_stack R238). -/
def execRet_Z (s : State) : Result := retCond .z 0xC8#8 s

/-- `RET`, slot 0xC9 (42_control_stack R237). -/
def execRet (s : State) : Result := retAlways 0xC9#8 s

/-- `JP Z,n16`, slot 0xCA (42_control_stack R233). -/
def execJp_Z_n16 (n16 : Addr) (s : State) : Result := jpCond .z n16 0xCA#8 s

/-- `CALL Z,n16`, slot 0xCC (42_control_stack R236). -/
def execCall_Z_n16 (n16 : Addr) (s : State) : Result := callCond .z n16 0xCC#8 s

/-- `CALL n16`, slot 0xCD (42_control_stack R235). -/
def execCall_n16 (n16 : Addr) (s : State) : Result := callAlways n16 0xCD#8 s

/-- `RST 0x08`, slot 0xCF (42_control_stack R240). -/
def execRst_08 (s : State) : Result := restart 0x0008#16 0xCF#8 s

/-- `RET NC`, slot 0xD0 (42_control_stack R238). -/
def execRet_NC (s : State) : Result := retCond .nc 0xD0#8 s

/-- `POP DE`, slot 0xD1 (42_control_stack R227). -/
def execPop_DE (s : State) : Result := popStk .de 0xD1#8 s

/-- `JP NC,n16`, slot 0xD2 (42_control_stack R233). -/
def execJp_NC_n16 (n16 : Addr) (s : State) : Result := jpCond .nc n16 0xD2#8 s

/-- `CALL NC,n16`, slot 0xD4 (42_control_stack R236). -/
def execCall_NC_n16 (n16 : Addr) (s : State) : Result := callCond .nc n16 0xD4#8 s

/-- `PUSH DE`, slot 0xD5 (42_control_stack R223). -/
def execPush_DE (s : State) : Result := pushStk .de 0xD5#8 s

/-- `RST 0x10`, slot 0xD7 (42_control_stack R240). -/
def execRst_10 (s : State) : Result := restart 0x0010#16 0xD7#8 s

/-- `RET C`, slot 0xD8 (42_control_stack R238). -/
def execRet_C (s : State) : Result := retCond .c 0xD8#8 s

/-- `RETI`, slot 0xD9 (42_control_stack R239). -/
def execReti (s : State) : Result := retAlways 0xD9#8 s

/-- `JP C,n16`, slot 0xDA (42_control_stack R233). -/
def execJp_C_n16 (n16 : Addr) (s : State) : Result := jpCond .c n16 0xDA#8 s

/-- `CALL C,n16`, slot 0xDC (42_control_stack R236). -/
def execCall_C_n16 (n16 : Addr) (s : State) : Result := callCond .c n16 0xDC#8 s

/-- `RST 0x18`, slot 0xDF (42_control_stack R240). -/
def execRst_18 (s : State) : Result := restart 0x0018#16 0xDF#8 s

/-- `POP HL`, slot 0xE1 (42_control_stack R227). -/
def execPop_HL (s : State) : Result := popStk .hl 0xE1#8 s

/-- `PUSH HL`, slot 0xE5 (42_control_stack R223). -/
def execPush_HL (s : State) : Result := pushStk .hl 0xE5#8 s

/-- `RST 0x20`, slot 0xE7 (42_control_stack R240). -/
def execRst_20 (s : State) : Result := restart 0x0020#16 0xE7#8 s

/-- `JP HL`, slot 0xE9 (42_control_stack R234). -/
def execJp_HL (s : State) : Result := jpHL 0xE9#8 s

/-- `RST 0x28`, slot 0xEF (42_control_stack R240). -/
def execRst_28 (s : State) : Result := restart 0x0028#16 0xEF#8 s

/-- `POP AF`, slot 0xF1 (42_control_stack R229). -/
def execPop_AF (s : State) : Result := popStk .af 0xF1#8 s

/-- `PUSH AF`, slot 0xF5 (42_control_stack R225). -/
def execPush_AF (s : State) : Result := pushStk .af 0xF5#8 s

/-- `RST 0x30`, slot 0xF7 (42_control_stack R240). -/
def execRst_30 (s : State) : Result := restart 0x0030#16 0xF7#8 s

/-- `RST 0x38`, slot 0xFF (42_control_stack R240). -/
def execRst_38 (s : State) : Result := restart 0x0038#16 0xFF#8 s

end Sys2Proof.Machine
end

