-- ==== Sys2Proof/Machine/Load16.lean ====
section
/-! DEFINITION. The 16-bit loads and arithmetic (44_load16_arith16 R280 to R287). -/

namespace Sys2Proof.Machine

/-- LD r16,n16 (44_load16_arith16 R280). -/
def ld16 (r : Reg16) (n16 : Addr) (opcode : Byte) : State → Result :=
  execSlot .primary opcode 3 fun t => .ok ((t.setReg16 r n16).cyc .primary opcode false 12)

/-- LD (n16),SP (44_load16_arith16 R281). -/
def storeSP (n16 : Addr) (opcode : Byte) : State → Result :=
  execSlot .primary opcode 3 fun t => do
    let u ← t.memWrite2 n16 t.sp
    .ok (u.cyc .primary opcode false 20)

/-- LD SP,HL (44_load16_arith16 R282). -/
def ldSpHL (opcode : Byte) : State → Result :=
  execSlot .primary opcode 1 fun t => .ok ((t.setReg16 .sp t.hl).cyc .primary opcode false 8)

/-- LD HL,SP+e8 (44_load16_arith16 R283). -/
def ldHLSp (e8 : Byte) (opcode : Byte) : State → Result :=
  execSlot .primary opcode 2 fun t =>
    .ok ((spFlags t.sp e8 (t.setReg16 .hl (t.sp + sext16 e8))).cyc .primary opcode false 12)

/-- INC r16 (44_load16_arith16 R284): no flag. -/
def inc16 (r : Reg16) (opcode : Byte) : State → Result :=
  execSlot .primary opcode 1 fun t => .ok ((t.setReg16 r (t.reg16 r + 1#16)).cyc .primary opcode false 8)

/-- DEC r16 (44_load16_arith16 R285): no flag. -/
def dec16 (r : Reg16) (opcode : Byte) : State → Result :=
  execSlot .primary opcode 1 fun t => .ok ((t.setReg16 r (t.reg16 r - 1#16)).cyc .primary opcode false 8)

/-- ADD HL,r16 (44_load16_arith16 R286): the operand is read before HL is written. -/
def addHLReg (r : Reg16) (opcode : Byte) : State → Result :=
  execSlot .primary opcode 1 fun t => .ok ((addHL (t.reg16 r) t).cyc .primary opcode false 8)

/-- ADD SP,e8 (44_load16_arith16 R287). -/
def addSp (e8 : Byte) (opcode : Byte) : State → Result :=
  execSlot .primary opcode 2 fun t =>
    .ok ((spFlags t.sp e8 (t.setReg16 .sp (t.sp + sext16 e8))).cyc .primary opcode false 16)

/-- `LD BC,n16`, slot 0x01 (44_load16_arith16 R280). -/
def execLd_BC_n16 (n16 : Addr) (s : State) : Result := ld16 .bc n16 0x01#8 s

/-- `INC BC`, slot 0x03 (44_load16_arith16 R284). -/
def execInc_BC (s : State) : Result := inc16 .bc 0x03#8 s

/-- `LD (n16),SP`, slot 0x08 (44_load16_arith16 R281). -/
def execLd_atN16_SP (n16 : Addr) (s : State) : Result := storeSP n16 0x08#8 s

/-- `ADD HL,BC`, slot 0x09 (44_load16_arith16 R286). -/
def execAdd_HL_BC (s : State) : Result := addHLReg .bc 0x09#8 s

/-- `DEC BC`, slot 0x0B (44_load16_arith16 R285). -/
def execDec_BC (s : State) : Result := dec16 .bc 0x0B#8 s

/-- `LD DE,n16`, slot 0x11 (44_load16_arith16 R280). -/
def execLd_DE_n16 (n16 : Addr) (s : State) : Result := ld16 .de n16 0x11#8 s

/-- `INC DE`, slot 0x13 (44_load16_arith16 R284). -/
def execInc_DE (s : State) : Result := inc16 .de 0x13#8 s

/-- `ADD HL,DE`, slot 0x19 (44_load16_arith16 R286). -/
def execAdd_HL_DE (s : State) : Result := addHLReg .de 0x19#8 s

/-- `DEC DE`, slot 0x1B (44_load16_arith16 R285). -/
def execDec_DE (s : State) : Result := dec16 .de 0x1B#8 s

/-- `LD HL,n16`, slot 0x21 (44_load16_arith16 R280). -/
def execLd_HL_n16 (n16 : Addr) (s : State) : Result := ld16 .hl n16 0x21#8 s

/-- `INC HL`, slot 0x23 (44_load16_arith16 R284). -/
def execInc_HL (s : State) : Result := inc16 .hl 0x23#8 s

/-- `ADD HL,HL`, slot 0x29 (44_load16_arith16 R286). -/
def execAdd_HL_HL (s : State) : Result := addHLReg .hl 0x29#8 s

/-- `DEC HL`, slot 0x2B (44_load16_arith16 R285). -/
def execDec_HL (s : State) : Result := dec16 .hl 0x2B#8 s

/-- `LD SP,n16`, slot 0x31 (44_load16_arith16 R280). -/
def execLd_SP_n16 (n16 : Addr) (s : State) : Result := ld16 .sp n16 0x31#8 s

/-- `INC SP`, slot 0x33 (44_load16_arith16 R284). -/
def execInc_SP (s : State) : Result := inc16 .sp 0x33#8 s

/-- `ADD HL,SP`, slot 0x39 (44_load16_arith16 R286). -/
def execAdd_HL_SP (s : State) : Result := addHLReg .sp 0x39#8 s

/-- `DEC SP`, slot 0x3B (44_load16_arith16 R285). -/
def execDec_SP (s : State) : Result := dec16 .sp 0x3B#8 s

/-- `ADD SP,e8`, slot 0xE8 (44_load16_arith16 R287). -/
def execAdd_SP_e8 (e8 : Byte) (s : State) : Result := addSp e8 0xE8#8 s

/-- `LD HL,SP+e8`, slot 0xF8 (44_load16_arith16 R283). -/
def execLd_HL_SPe8 (e8 : Byte) (s : State) : Result := ldHLSp e8 0xF8#8 s

/-- `LD SP,HL`, slot 0xF9 (44_load16_arith16 R282). -/
def execLd_SP_HL (s : State) : Result := ldSpHL 0xF9#8 s

end Sys2Proof.Machine
end

