-- ==== Sys2Proof/Machine/Load8.lean ====
section
/-! DEFINITION. The 8-bit loads and stores (43_load8 R250 to R268). No load writes a flag. -/

namespace Sys2Proof.Machine

/-- The data address of `r16mem` (43_load8 R255 to R266, R269). -/
def Mem16.addr (m : Mem16) (s : State) : Addr :=
  match m with
  | .atBC => s.reg16 .bc
  | .atDE => s.reg16 .de
  | .atHLI => s.hl
  | .atHLD => s.hl

/-- HL after the access: post-increment, post-decrement, or kept (43_load8 R259 to R266). -/
def Mem16.post (m : Mem16) (s : State) : State :=
  match m with
  | .atBC => s
  | .atDE => s
  | .atHLI => s.setReg16 .hl (s.hl + 1#16)
  | .atHLD => s.setReg16 .hl (s.hl - 1#16)

/-- An address of the page 0xFF00 (43_load8 R262, R264). -/
def highPage (n : Byte) : Addr := 0xFF00#16 + n.setWidth 16

/-- LD r8,r8' (43_load8 R250). -/
def ldReg (d r : Reg8) (opcode : Byte) : State → Result :=
  execSlot .primary opcode 1 fun t => .ok ((t.setReg d (t.reg r)).cyc .primary opcode false 4)

/-- LD r8,(HL) (43_load8 R251). -/
def ldFromHL (d : Reg8) (opcode : Byte) : State → Result :=
  execSlot .primary opcode 1 fun t => do
    let v ← t.memRead t.hl
    .ok ((t.setReg d v).cyc .primary opcode false 8)

/-- LD (HL),r8 (43_load8 R252). -/
def ldToHL (r : Reg8) (opcode : Byte) : State → Result :=
  execSlot .primary opcode 1 fun t => do
    let u ← t.memWrite t.hl (t.reg r)
    .ok (u.cyc .primary opcode false 8)

/-- LD r8,n8 (43_load8 R253). -/
def ldImm (d : Reg8) (n8 : Byte) (opcode : Byte) : State → Result :=
  execSlot .primary opcode 2 fun t => .ok ((t.setReg d n8).cyc .primary opcode false 8)

/-- LD (HL),n8 (43_load8 R254). -/
def ldToHLImm (n8 : Byte) (opcode : Byte) : State → Result :=
  execSlot .primary opcode 2 fun t => do
    let u ← t.memWrite t.hl n8
    .ok (u.cyc .primary opcode false 12)

/-- LD (BC),A; LD (DE),A; LD (HL+),A; LD (HL-),A (43_load8 R255, R256, R259, R260). -/
def storeA (m : Mem16) (opcode : Byte) : State → Result :=
  execSlot .primary opcode 1 fun t => do
    let u ← t.memWrite (m.addr t) t.a
    .ok ((m.post u).cyc .primary opcode false 8)

/-- LD A,(BC); LD A,(DE); LD A,(HL+); LD A,(HL-) (43_load8 R257, R258, R261, R266). -/
def loadA (m : Mem16) (opcode : Byte) : State → Result :=
  execSlot .primary opcode 1 fun t => do
    let v ← t.memRead (m.addr t)
    .ok ((m.post (t.setReg .a v)).cyc .primary opcode false 8)

/-- A stored at an address named by the instruction's bytes (43_load8 R262, R267). -/
def storeAAt (a : Addr) (length cycles : Nat) (opcode : Byte) : State → Result :=
  execSlot .primary opcode length fun t => do
    let u ← t.memWrite a t.a
    .ok (u.cyc .primary opcode false cycles)

/-- A loaded from an address named by the instruction's bytes (43_load8 R263, R268). -/
def loadAAt (a : Addr) (length cycles : Nat) (opcode : Byte) : State → Result :=
  execSlot .primary opcode length fun t => do
    let v ← t.memRead a
    .ok ((t.setReg .a v).cyc .primary opcode false cycles)

/-- LD (C),A (43_load8 R264). -/
def storeAHighC (opcode : Byte) : State → Result :=
  execSlot .primary opcode 1 fun t => do
    let u ← t.memWrite (highPage t.c) t.a
    .ok (u.cyc .primary opcode false 8)

/-- LD A,(C) (43_load8 R265). -/
def loadAHighC (opcode : Byte) : State → Result :=
  execSlot .primary opcode 1 fun t => do
    let v ← t.memRead (highPage t.c)
    .ok ((t.setReg .a v).cyc .primary opcode false 8)

/-- `LD (BC),A`, slot 0x02 (43_load8 R255). -/
def execLd_atBC_A (s : State) : Result := storeA .atBC 0x02#8 s

/-- `LD B,n8`, slot 0x06 (43_load8 R253). -/
def execLd_B_n8 (n8 : Byte) (s : State) : Result := ldImm .b n8 0x06#8 s

/-- `LD A,(BC)`, slot 0x0A (43_load8 R257). -/
def execLd_A_atBC (s : State) : Result := loadA .atBC 0x0A#8 s

/-- `LD C,n8`, slot 0x0E (43_load8 R253). -/
def execLd_C_n8 (n8 : Byte) (s : State) : Result := ldImm .c n8 0x0E#8 s

/-- `LD (DE),A`, slot 0x12 (43_load8 R256). -/
def execLd_atDE_A (s : State) : Result := storeA .atDE 0x12#8 s

/-- `LD D,n8`, slot 0x16 (43_load8 R253). -/
def execLd_D_n8 (n8 : Byte) (s : State) : Result := ldImm .d n8 0x16#8 s

/-- `LD A,(DE)`, slot 0x1A (43_load8 R258). -/
def execLd_A_atDE (s : State) : Result := loadA .atDE 0x1A#8 s

/-- `LD E,n8`, slot 0x1E (43_load8 R253). -/
def execLd_E_n8 (n8 : Byte) (s : State) : Result := ldImm .e n8 0x1E#8 s

/-- `LD (HL+),A`, slot 0x22 (43_load8 R259). -/
def execLd_atHLI_A (s : State) : Result := storeA .atHLI 0x22#8 s

/-- `LD H,n8`, slot 0x26 (43_load8 R253). -/
def execLd_H_n8 (n8 : Byte) (s : State) : Result := ldImm .h n8 0x26#8 s

/-- `LD A,(HL+)`, slot 0x2A (43_load8 R261). -/
def execLd_A_atHLI (s : State) : Result := loadA .atHLI 0x2A#8 s

/-- `LD L,n8`, slot 0x2E (43_load8 R253). -/
def execLd_L_n8 (n8 : Byte) (s : State) : Result := ldImm .l n8 0x2E#8 s

/-- `LD (HL-),A`, slot 0x32 (43_load8 R260). -/
def execLd_atHLD_A (s : State) : Result := storeA .atHLD 0x32#8 s

/-- `LD (HL),n8`, slot 0x36 (43_load8 R254). -/
def execLd_atHL_n8 (n8 : Byte) (s : State) : Result := ldToHLImm n8 0x36#8 s

/-- `LD A,(HL-)`, slot 0x3A (43_load8 R266). -/
def execLd_A_atHLD (s : State) : Result := loadA .atHLD 0x3A#8 s

/-- `LD A,n8`, slot 0x3E (43_load8 R253). -/
def execLd_A_n8 (n8 : Byte) (s : State) : Result := ldImm .a n8 0x3E#8 s

/-- `LD B,B`, slot 0x40 (43_load8 R250). -/
def execLd_B_B (s : State) : Result := ldReg .b .b 0x40#8 s

/-- `LD B,C`, slot 0x41 (43_load8 R250). -/
def execLd_B_C (s : State) : Result := ldReg .b .c 0x41#8 s

/-- `LD B,D`, slot 0x42 (43_load8 R250). -/
def execLd_B_D (s : State) : Result := ldReg .b .d 0x42#8 s

/-- `LD B,E`, slot 0x43 (43_load8 R250). -/
def execLd_B_E (s : State) : Result := ldReg .b .e 0x43#8 s

/-- `LD B,H`, slot 0x44 (43_load8 R250). -/
def execLd_B_H (s : State) : Result := ldReg .b .h 0x44#8 s

/-- `LD B,L`, slot 0x45 (43_load8 R250). -/
def execLd_B_L (s : State) : Result := ldReg .b .l 0x45#8 s

/-- `LD B,(HL)`, slot 0x46 (43_load8 R251). -/
def execLd_B_atHL (s : State) : Result := ldFromHL .b 0x46#8 s

/-- `LD B,A`, slot 0x47 (43_load8 R250). -/
def execLd_B_A (s : State) : Result := ldReg .b .a 0x47#8 s

/-- `LD C,B`, slot 0x48 (43_load8 R250). -/
def execLd_C_B (s : State) : Result := ldReg .c .b 0x48#8 s

/-- `LD C,C`, slot 0x49 (43_load8 R250). -/
def execLd_C_C (s : State) : Result := ldReg .c .c 0x49#8 s

/-- `LD C,D`, slot 0x4A (43_load8 R250). -/
def execLd_C_D (s : State) : Result := ldReg .c .d 0x4A#8 s

/-- `LD C,E`, slot 0x4B (43_load8 R250). -/
def execLd_C_E (s : State) : Result := ldReg .c .e 0x4B#8 s

/-- `LD C,H`, slot 0x4C (43_load8 R250). -/
def execLd_C_H (s : State) : Result := ldReg .c .h 0x4C#8 s

/-- `LD C,L`, slot 0x4D (43_load8 R250). -/
def execLd_C_L (s : State) : Result := ldReg .c .l 0x4D#8 s

/-- `LD C,(HL)`, slot 0x4E (43_load8 R251). -/
def execLd_C_atHL (s : State) : Result := ldFromHL .c 0x4E#8 s

/-- `LD C,A`, slot 0x4F (43_load8 R250). -/
def execLd_C_A (s : State) : Result := ldReg .c .a 0x4F#8 s

/-- `LD D,B`, slot 0x50 (43_load8 R250). -/
def execLd_D_B (s : State) : Result := ldReg .d .b 0x50#8 s

/-- `LD D,C`, slot 0x51 (43_load8 R250). -/
def execLd_D_C (s : State) : Result := ldReg .d .c 0x51#8 s

/-- `LD D,D`, slot 0x52 (43_load8 R250). -/
def execLd_D_D (s : State) : Result := ldReg .d .d 0x52#8 s

/-- `LD D,E`, slot 0x53 (43_load8 R250). -/
def execLd_D_E (s : State) : Result := ldReg .d .e 0x53#8 s

/-- `LD D,H`, slot 0x54 (43_load8 R250). -/
def execLd_D_H (s : State) : Result := ldReg .d .h 0x54#8 s

/-- `LD D,L`, slot 0x55 (43_load8 R250). -/
def execLd_D_L (s : State) : Result := ldReg .d .l 0x55#8 s

/-- `LD D,(HL)`, slot 0x56 (43_load8 R251). -/
def execLd_D_atHL (s : State) : Result := ldFromHL .d 0x56#8 s

/-- `LD D,A`, slot 0x57 (43_load8 R250). -/
def execLd_D_A (s : State) : Result := ldReg .d .a 0x57#8 s

/-- `LD E,B`, slot 0x58 (43_load8 R250). -/
def execLd_E_B (s : State) : Result := ldReg .e .b 0x58#8 s

/-- `LD E,C`, slot 0x59 (43_load8 R250). -/
def execLd_E_C (s : State) : Result := ldReg .e .c 0x59#8 s

/-- `LD E,D`, slot 0x5A (43_load8 R250). -/
def execLd_E_D (s : State) : Result := ldReg .e .d 0x5A#8 s

/-- `LD E,E`, slot 0x5B (43_load8 R250). -/
def execLd_E_E (s : State) : Result := ldReg .e .e 0x5B#8 s

/-- `LD E,H`, slot 0x5C (43_load8 R250). -/
def execLd_E_H (s : State) : Result := ldReg .e .h 0x5C#8 s

/-- `LD E,L`, slot 0x5D (43_load8 R250). -/
def execLd_E_L (s : State) : Result := ldReg .e .l 0x5D#8 s

/-- `LD E,(HL)`, slot 0x5E (43_load8 R251). -/
def execLd_E_atHL (s : State) : Result := ldFromHL .e 0x5E#8 s

/-- `LD E,A`, slot 0x5F (43_load8 R250). -/
def execLd_E_A (s : State) : Result := ldReg .e .a 0x5F#8 s

/-- `LD H,B`, slot 0x60 (43_load8 R250). -/
def execLd_H_B (s : State) : Result := ldReg .h .b 0x60#8 s

/-- `LD H,C`, slot 0x61 (43_load8 R250). -/
def execLd_H_C (s : State) : Result := ldReg .h .c 0x61#8 s

/-- `LD H,D`, slot 0x62 (43_load8 R250). -/
def execLd_H_D (s : State) : Result := ldReg .h .d 0x62#8 s

/-- `LD H,E`, slot 0x63 (43_load8 R250). -/
def execLd_H_E (s : State) : Result := ldReg .h .e 0x63#8 s

/-- `LD H,H`, slot 0x64 (43_load8 R250). -/
def execLd_H_H (s : State) : Result := ldReg .h .h 0x64#8 s

/-- `LD H,L`, slot 0x65 (43_load8 R250). -/
def execLd_H_L (s : State) : Result := ldReg .h .l 0x65#8 s

/-- `LD H,(HL)`, slot 0x66 (43_load8 R251). -/
def execLd_H_atHL (s : State) : Result := ldFromHL .h 0x66#8 s

/-- `LD H,A`, slot 0x67 (43_load8 R250). -/
def execLd_H_A (s : State) : Result := ldReg .h .a 0x67#8 s

/-- `LD L,B`, slot 0x68 (43_load8 R250). -/
def execLd_L_B (s : State) : Result := ldReg .l .b 0x68#8 s

/-- `LD L,C`, slot 0x69 (43_load8 R250). -/
def execLd_L_C (s : State) : Result := ldReg .l .c 0x69#8 s

/-- `LD L,D`, slot 0x6A (43_load8 R250). -/
def execLd_L_D (s : State) : Result := ldReg .l .d 0x6A#8 s

/-- `LD L,E`, slot 0x6B (43_load8 R250). -/
def execLd_L_E (s : State) : Result := ldReg .l .e 0x6B#8 s

/-- `LD L,H`, slot 0x6C (43_load8 R250). -/
def execLd_L_H (s : State) : Result := ldReg .l .h 0x6C#8 s

/-- `LD L,L`, slot 0x6D (43_load8 R250). -/
def execLd_L_L (s : State) : Result := ldReg .l .l 0x6D#8 s

/-- `LD L,(HL)`, slot 0x6E (43_load8 R251). -/
def execLd_L_atHL (s : State) : Result := ldFromHL .l 0x6E#8 s

/-- `LD L,A`, slot 0x6F (43_load8 R250). -/
def execLd_L_A (s : State) : Result := ldReg .l .a 0x6F#8 s

/-- `LD (HL),B`, slot 0x70 (43_load8 R252). -/
def execLd_atHL_B (s : State) : Result := ldToHL .b 0x70#8 s

/-- `LD (HL),C`, slot 0x71 (43_load8 R252). -/
def execLd_atHL_C (s : State) : Result := ldToHL .c 0x71#8 s

/-- `LD (HL),D`, slot 0x72 (43_load8 R252). -/
def execLd_atHL_D (s : State) : Result := ldToHL .d 0x72#8 s

/-- `LD (HL),E`, slot 0x73 (43_load8 R252). -/
def execLd_atHL_E (s : State) : Result := ldToHL .e 0x73#8 s

/-- `LD (HL),H`, slot 0x74 (43_load8 R252). -/
def execLd_atHL_H (s : State) : Result := ldToHL .h 0x74#8 s

/-- `LD (HL),L`, slot 0x75 (43_load8 R252). -/
def execLd_atHL_L (s : State) : Result := ldToHL .l 0x75#8 s

/-- `LD (HL),A`, slot 0x77 (43_load8 R252). -/
def execLd_atHL_A (s : State) : Result := ldToHL .a 0x77#8 s

/-- `LD A,B`, slot 0x78 (43_load8 R250). -/
def execLd_A_B (s : State) : Result := ldReg .a .b 0x78#8 s

/-- `LD A,C`, slot 0x79 (43_load8 R250). -/
def execLd_A_C (s : State) : Result := ldReg .a .c 0x79#8 s

/-- `LD A,D`, slot 0x7A (43_load8 R250). -/
def execLd_A_D (s : State) : Result := ldReg .a .d 0x7A#8 s

/-- `LD A,E`, slot 0x7B (43_load8 R250). -/
def execLd_A_E (s : State) : Result := ldReg .a .e 0x7B#8 s

/-- `LD A,H`, slot 0x7C (43_load8 R250). -/
def execLd_A_H (s : State) : Result := ldReg .a .h 0x7C#8 s

/-- `LD A,L`, slot 0x7D (43_load8 R250). -/
def execLd_A_L (s : State) : Result := ldReg .a .l 0x7D#8 s

/-- `LD A,(HL)`, slot 0x7E (43_load8 R251). -/
def execLd_A_atHL (s : State) : Result := ldFromHL .a 0x7E#8 s

/-- `LD A,A`, slot 0x7F (43_load8 R250). -/
def execLd_A_A (s : State) : Result := ldReg .a .a 0x7F#8 s

/-- `LDH (n8),A`, slot 0xE0 (43_load8 R262). -/
def execLdh_atN8_A (n8 : Byte) (s : State) : Result := storeAAt (highPage n8) 2 12 0xE0#8 s

/-- `LD (C),A`, slot 0xE2 (43_load8 R264). -/
def execLd_atC_A (s : State) : Result := storeAHighC 0xE2#8 s

/-- `LD (n16),A`, slot 0xEA (43_load8 R267). -/
def execLd_atN16_A (n16 : Addr) (s : State) : Result := storeAAt n16 3 16 0xEA#8 s

/-- `LDH A,(n8)`, slot 0xF0 (43_load8 R263). -/
def execLdh_A_atN8 (n8 : Byte) (s : State) : Result := loadAAt (highPage n8) 2 12 0xF0#8 s

/-- `LD A,(C)`, slot 0xF2 (43_load8 R265). -/
def execLd_A_atC (s : State) : Result := loadAHighC 0xF2#8 s

/-- `LD A,(n16)`, slot 0xFA (43_load8 R268). -/
def execLd_A_atN16 (n16 : Addr) (s : State) : Result := loadAAt n16 3 16 0xFA#8 s

end Sys2Proof.Machine
end

