-- ==== Sys2Proof/Machine/Rotate.lean ====
section
/-! DEFINITION. The rotates and shifts of both tables (45_rotate_bit R300 to R312). -/

namespace Sys2Proof.Machine

/-- RLCA, RRCA, RLA, RRA (45_rotate_bit R300 to R303). -/
def rotateAcc (k : RotOp) (opcode : Byte) : State → Result :=
  execSlot .primary opcode 1 fun t => .ok ((rotateA k t).cyc .primary opcode false 4)

/-- An extended rotate or shift: the operand is read, the result written back, then the flags written, with the carry
before the instruction going in (45_rotate_bit R304 to R312). -/
def rotateOperand (k : RotOp) (o : Operand8) (opcode : Byte) : State → Result :=
  execSlot .extended opcode 2 fun t => do
    let v ← t.readOperand o
    let r := rotate k t.cf v
    let u ← t.writeOperand o r.1
    .ok ((u.setFlags (r.1 == 0#8) false false r.2).cyc .extended opcode false (o.cycles 8 16))

/-- `RLCA`, slot 0x07 (45_rotate_bit R300). -/
def execRlca (s : State) : Result := rotateAcc .rlc 0x07#8 s

/-- `RRCA`, slot 0x0F (45_rotate_bit R301). -/
def execRrca (s : State) : Result := rotateAcc .rrc 0x0F#8 s

/-- `RLA`, slot 0x17 (45_rotate_bit R302). -/
def execRla (s : State) : Result := rotateAcc .rl 0x17#8 s

/-- `RRA`, slot 0x1F (45_rotate_bit R303). -/
def execRra (s : State) : Result := rotateAcc .rr 0x1F#8 s

/-- `RLC B`, slot CB 00 (45_rotate_bit R305). -/
def execRlc_B (s : State) : Result := rotateOperand .rlc (.reg .b) 0x00#8 s

/-- `RLC C`, slot CB 01 (45_rotate_bit R305). -/
def execRlc_C (s : State) : Result := rotateOperand .rlc (.reg .c) 0x01#8 s

/-- `RLC D`, slot CB 02 (45_rotate_bit R305). -/
def execRlc_D (s : State) : Result := rotateOperand .rlc (.reg .d) 0x02#8 s

/-- `RLC E`, slot CB 03 (45_rotate_bit R305). -/
def execRlc_E (s : State) : Result := rotateOperand .rlc (.reg .e) 0x03#8 s

/-- `RLC H`, slot CB 04 (45_rotate_bit R305). -/
def execRlc_H (s : State) : Result := rotateOperand .rlc (.reg .h) 0x04#8 s

/-- `RLC L`, slot CB 05 (45_rotate_bit R305). -/
def execRlc_L (s : State) : Result := rotateOperand .rlc (.reg .l) 0x05#8 s

/-- `RLC (HL)`, slot CB 06 (45_rotate_bit R305). -/
def execRlc_atHL (s : State) : Result := rotateOperand .rlc .atHL 0x06#8 s

/-- `RLC A`, slot CB 07 (45_rotate_bit R305). -/
def execRlc_A (s : State) : Result := rotateOperand .rlc (.reg .a) 0x07#8 s

/-- `RRC B`, slot CB 08 (45_rotate_bit R306). -/
def execRrc_B (s : State) : Result := rotateOperand .rrc (.reg .b) 0x08#8 s

/-- `RRC C`, slot CB 09 (45_rotate_bit R306). -/
def execRrc_C (s : State) : Result := rotateOperand .rrc (.reg .c) 0x09#8 s

/-- `RRC D`, slot CB 0A (45_rotate_bit R306). -/
def execRrc_D (s : State) : Result := rotateOperand .rrc (.reg .d) 0x0A#8 s

/-- `RRC E`, slot CB 0B (45_rotate_bit R306). -/
def execRrc_E (s : State) : Result := rotateOperand .rrc (.reg .e) 0x0B#8 s

/-- `RRC H`, slot CB 0C (45_rotate_bit R306). -/
def execRrc_H (s : State) : Result := rotateOperand .rrc (.reg .h) 0x0C#8 s

/-- `RRC L`, slot CB 0D (45_rotate_bit R306). -/
def execRrc_L (s : State) : Result := rotateOperand .rrc (.reg .l) 0x0D#8 s

/-- `RRC (HL)`, slot CB 0E (45_rotate_bit R306). -/
def execRrc_atHL (s : State) : Result := rotateOperand .rrc .atHL 0x0E#8 s

/-- `RRC A`, slot CB 0F (45_rotate_bit R306). -/
def execRrc_A (s : State) : Result := rotateOperand .rrc (.reg .a) 0x0F#8 s

/-- `RL B`, slot CB 10 (45_rotate_bit R307). -/
def execRl_B (s : State) : Result := rotateOperand .rl (.reg .b) 0x10#8 s

/-- `RL C`, slot CB 11 (45_rotate_bit R307). -/
def execRl_C (s : State) : Result := rotateOperand .rl (.reg .c) 0x11#8 s

/-- `RL D`, slot CB 12 (45_rotate_bit R307). -/
def execRl_D (s : State) : Result := rotateOperand .rl (.reg .d) 0x12#8 s

/-- `RL E`, slot CB 13 (45_rotate_bit R307). -/
def execRl_E (s : State) : Result := rotateOperand .rl (.reg .e) 0x13#8 s

/-- `RL H`, slot CB 14 (45_rotate_bit R307). -/
def execRl_H (s : State) : Result := rotateOperand .rl (.reg .h) 0x14#8 s

/-- `RL L`, slot CB 15 (45_rotate_bit R307). -/
def execRl_L (s : State) : Result := rotateOperand .rl (.reg .l) 0x15#8 s

/-- `RL (HL)`, slot CB 16 (45_rotate_bit R307). -/
def execRl_atHL (s : State) : Result := rotateOperand .rl .atHL 0x16#8 s

/-- `RL A`, slot CB 17 (45_rotate_bit R307). -/
def execRl_A (s : State) : Result := rotateOperand .rl (.reg .a) 0x17#8 s

/-- `RR B`, slot CB 18 (45_rotate_bit R308). -/
def execRr_B (s : State) : Result := rotateOperand .rr (.reg .b) 0x18#8 s

/-- `RR C`, slot CB 19 (45_rotate_bit R308). -/
def execRr_C (s : State) : Result := rotateOperand .rr (.reg .c) 0x19#8 s

/-- `RR D`, slot CB 1A (45_rotate_bit R308). -/
def execRr_D (s : State) : Result := rotateOperand .rr (.reg .d) 0x1A#8 s

/-- `RR E`, slot CB 1B (45_rotate_bit R308). -/
def execRr_E (s : State) : Result := rotateOperand .rr (.reg .e) 0x1B#8 s

/-- `RR H`, slot CB 1C (45_rotate_bit R308). -/
def execRr_H (s : State) : Result := rotateOperand .rr (.reg .h) 0x1C#8 s

/-- `RR L`, slot CB 1D (45_rotate_bit R308). -/
def execRr_L (s : State) : Result := rotateOperand .rr (.reg .l) 0x1D#8 s

/-- `RR (HL)`, slot CB 1E (45_rotate_bit R308). -/
def execRr_atHL (s : State) : Result := rotateOperand .rr .atHL 0x1E#8 s

/-- `RR A`, slot CB 1F (45_rotate_bit R308). -/
def execRr_A (s : State) : Result := rotateOperand .rr (.reg .a) 0x1F#8 s

/-- `SLA B`, slot CB 20 (45_rotate_bit R309). -/
def execSla_B (s : State) : Result := rotateOperand .sla (.reg .b) 0x20#8 s

/-- `SLA C`, slot CB 21 (45_rotate_bit R309). -/
def execSla_C (s : State) : Result := rotateOperand .sla (.reg .c) 0x21#8 s

/-- `SLA D`, slot CB 22 (45_rotate_bit R309). -/
def execSla_D (s : State) : Result := rotateOperand .sla (.reg .d) 0x22#8 s

/-- `SLA E`, slot CB 23 (45_rotate_bit R309). -/
def execSla_E (s : State) : Result := rotateOperand .sla (.reg .e) 0x23#8 s

/-- `SLA H`, slot CB 24 (45_rotate_bit R309). -/
def execSla_H (s : State) : Result := rotateOperand .sla (.reg .h) 0x24#8 s

/-- `SLA L`, slot CB 25 (45_rotate_bit R309). -/
def execSla_L (s : State) : Result := rotateOperand .sla (.reg .l) 0x25#8 s

/-- `SLA (HL)`, slot CB 26 (45_rotate_bit R309). -/
def execSla_atHL (s : State) : Result := rotateOperand .sla .atHL 0x26#8 s

/-- `SLA A`, slot CB 27 (45_rotate_bit R309). -/
def execSla_A (s : State) : Result := rotateOperand .sla (.reg .a) 0x27#8 s

/-- `SRA B`, slot CB 28 (45_rotate_bit R310). -/
def execSra_B (s : State) : Result := rotateOperand .sra (.reg .b) 0x28#8 s

/-- `SRA C`, slot CB 29 (45_rotate_bit R310). -/
def execSra_C (s : State) : Result := rotateOperand .sra (.reg .c) 0x29#8 s

/-- `SRA D`, slot CB 2A (45_rotate_bit R310). -/
def execSra_D (s : State) : Result := rotateOperand .sra (.reg .d) 0x2A#8 s

/-- `SRA E`, slot CB 2B (45_rotate_bit R310). -/
def execSra_E (s : State) : Result := rotateOperand .sra (.reg .e) 0x2B#8 s

/-- `SRA H`, slot CB 2C (45_rotate_bit R310). -/
def execSra_H (s : State) : Result := rotateOperand .sra (.reg .h) 0x2C#8 s

/-- `SRA L`, slot CB 2D (45_rotate_bit R310). -/
def execSra_L (s : State) : Result := rotateOperand .sra (.reg .l) 0x2D#8 s

/-- `SRA (HL)`, slot CB 2E (45_rotate_bit R310). -/
def execSra_atHL (s : State) : Result := rotateOperand .sra .atHL 0x2E#8 s

/-- `SRA A`, slot CB 2F (45_rotate_bit R310). -/
def execSra_A (s : State) : Result := rotateOperand .sra (.reg .a) 0x2F#8 s

/-- `SWAP B`, slot CB 30 (45_rotate_bit R311). -/
def execSwap_B (s : State) : Result := rotateOperand .swap (.reg .b) 0x30#8 s

/-- `SWAP C`, slot CB 31 (45_rotate_bit R311). -/
def execSwap_C (s : State) : Result := rotateOperand .swap (.reg .c) 0x31#8 s

/-- `SWAP D`, slot CB 32 (45_rotate_bit R311). -/
def execSwap_D (s : State) : Result := rotateOperand .swap (.reg .d) 0x32#8 s

/-- `SWAP E`, slot CB 33 (45_rotate_bit R311). -/
def execSwap_E (s : State) : Result := rotateOperand .swap (.reg .e) 0x33#8 s

/-- `SWAP H`, slot CB 34 (45_rotate_bit R311). -/
def execSwap_H (s : State) : Result := rotateOperand .swap (.reg .h) 0x34#8 s

/-- `SWAP L`, slot CB 35 (45_rotate_bit R311). -/
def execSwap_L (s : State) : Result := rotateOperand .swap (.reg .l) 0x35#8 s

/-- `SWAP (HL)`, slot CB 36 (45_rotate_bit R311). -/
def execSwap_atHL (s : State) : Result := rotateOperand .swap .atHL 0x36#8 s

/-- `SWAP A`, slot CB 37 (45_rotate_bit R311). -/
def execSwap_A (s : State) : Result := rotateOperand .swap (.reg .a) 0x37#8 s

/-- `SRL B`, slot CB 38 (45_rotate_bit R312). -/
def execSrl_B (s : State) : Result := rotateOperand .srl (.reg .b) 0x38#8 s

/-- `SRL C`, slot CB 39 (45_rotate_bit R312). -/
def execSrl_C (s : State) : Result := rotateOperand .srl (.reg .c) 0x39#8 s

/-- `SRL D`, slot CB 3A (45_rotate_bit R312). -/
def execSrl_D (s : State) : Result := rotateOperand .srl (.reg .d) 0x3A#8 s

/-- `SRL E`, slot CB 3B (45_rotate_bit R312). -/
def execSrl_E (s : State) : Result := rotateOperand .srl (.reg .e) 0x3B#8 s

/-- `SRL H`, slot CB 3C (45_rotate_bit R312). -/
def execSrl_H (s : State) : Result := rotateOperand .srl (.reg .h) 0x3C#8 s

/-- `SRL L`, slot CB 3D (45_rotate_bit R312). -/
def execSrl_L (s : State) : Result := rotateOperand .srl (.reg .l) 0x3D#8 s

/-- `SRL (HL)`, slot CB 3E (45_rotate_bit R312). -/
def execSrl_atHL (s : State) : Result := rotateOperand .srl .atHL 0x3E#8 s

/-- `SRL A`, slot CB 3F (45_rotate_bit R312). -/
def execSrl_A (s : State) : Result := rotateOperand .srl (.reg .a) 0x3F#8 s

end Sys2Proof.Machine
end

