-- ==== Sys2Proof/Machine/Prefix.lean ====
section
/-! DEFINITION. The slot 0xCB, which selects the extended table (41_dispatch R203; log 10). -/

namespace Sys2Proof.Machine

/-- The extended-table rule for a byte, read from its fields x, y, z (30_encoding R122, R129). -/
def execExtended (ext : Byte) : State → Result :=
  let y := ext.toNat / 8 % 8
  let o := r8 (ext.toNat % 8)
  match ext.toNat / 64 with
  | 0 => rotateOperand (rotOf y) o ext
  | 1 => bitOperand y o ext
  | 2 => resOperand y o ext
  | _ => setOperand y o ext

/-- The slot 0xCB (41_dispatch R203): one more byte is read with `fetch8()` and its extended-table rule is executed.
`s.pc` is the address of the 0xCB byte. -/
def execCbPrefix (s : State) : Result :=
  match (s.advance 1).fetch8 with
  | .ok (ext, _) => execExtended ext s
  | .error x => raise (x.record s.pc) x.stopped

end Sys2Proof.Machine
end

