-- ==== Sys2Proof/Machine/System.lean ====
section
/-! DEFINITION. NOP, DI, EI, and the slots no profile models: HALT, STOP and the eleven empty slots (41_dispatch R206 to
R211, R204). -/

namespace Sys2Proof.Machine

/-- An instruction whose only effects are PC and the cost (41_dispatch R206, R210, R211). -/
def noEffect (opcode : Byte) : State → Result :=
  execSlot .primary opcode 1 fun t => .ok (t.cyc .primary opcode false 4)

/-- `NOP`, slot 0x00 (41_dispatch R206). -/
def execNop (s : State) : Result := noEffect 0x00#8 s

/-- `STOP`, slot 0x10 (41_dispatch R209). -/
def execStop (s : State) : Result := unimplementedSlot .primary 0x10#8 s

/-- `HALT`, slot 0x76 (41_dispatch R208). -/
def execHalt (s : State) : Result := unimplementedSlot .primary 0x76#8 s

/-- `UNIMPL_D3`, slot 0xD3 (41_dispatch R207). -/
def execUnimpl_D3 (s : State) : Result := unimplementedSlot .primary 0xD3#8 s

/-- `UNIMPL_DB`, slot 0xDB (41_dispatch R207). -/
def execUnimpl_DB (s : State) : Result := unimplementedSlot .primary 0xDB#8 s

/-- `UNIMPL_DD`, slot 0xDD (41_dispatch R207). -/
def execUnimpl_DD (s : State) : Result := unimplementedSlot .primary 0xDD#8 s

/-- `UNIMPL_E3`, slot 0xE3 (41_dispatch R207). -/
def execUnimpl_E3 (s : State) : Result := unimplementedSlot .primary 0xE3#8 s

/-- `UNIMPL_E4`, slot 0xE4 (41_dispatch R207). -/
def execUnimpl_E4 (s : State) : Result := unimplementedSlot .primary 0xE4#8 s

/-- `UNIMPL_EB`, slot 0xEB (41_dispatch R207). -/
def execUnimpl_EB (s : State) : Result := unimplementedSlot .primary 0xEB#8 s

/-- `UNIMPL_EC`, slot 0xEC (41_dispatch R207). -/
def execUnimpl_EC (s : State) : Result := unimplementedSlot .primary 0xEC#8 s

/-- `UNIMPL_ED`, slot 0xED (41_dispatch R207). -/
def execUnimpl_ED (s : State) : Result := unimplementedSlot .primary 0xED#8 s

/-- `DI`, slot 0xF3 (41_dispatch R210). -/
def execDi (s : State) : Result := noEffect 0xF3#8 s

/-- `UNIMPL_F4`, slot 0xF4 (41_dispatch R207). -/
def execUnimpl_F4 (s : State) : Result := unimplementedSlot .primary 0xF4#8 s

/-- `EI`, slot 0xFB (41_dispatch R211). -/
def execEi (s : State) : Result := noEffect 0xFB#8 s

/-- `UNIMPL_FC`, slot 0xFC (41_dispatch R207). -/
def execUnimpl_FC (s : State) : Result := unimplementedSlot .primary 0xFC#8 s

/-- `UNIMPL_FD`, slot 0xFD (41_dispatch R207). -/
def execUnimpl_FD (s : State) : Result := unimplementedSlot .primary 0xFD#8 s

end Sys2Proof.Machine
end

