-- ==== Sys2Proof/Machine/Fetch.lean ====
section
/-! DEFINITION. Fetching one instruction through the address decoder (41_dispatch R200 steps 2 to 4; 30_encoding R124,
R125, R127; the order of 60_exceptions R334: opcode byte, extended byte, slot check, operand bytes in address order). -/

namespace Sys2Proof.Machine

/-- A fatal error met while fetching, with the state reached by then. -/
structure FetchError where
  record : FatalError
  stopped : State
  deriving DecidableEq, Repr

/-- `fetch8()` made by the instruction whose first byte is at `pc0`. -/
def fetchByte (pc0 : Addr) (s : State) : Except FetchError (Byte × State) :=
  match s.fetch8 with
  | .ok r => .ok r
  | .error x => .error ⟨x.record pc0, x.stopped⟩

/-- The operand bytes of a primary slot, then the instruction. -/
def fetchOperands (pc0 : Addr) (op : Byte) (s : State) : Except FetchError Instr :=
  match operandCount op with
  | 0 => .ok (decodePrimary op 0#8 0#8)
  | 1 => do
    let (b1, _) ← fetchByte pc0 s
    .ok (decodePrimary op b1 0#8)
  | _ => do
    let (b1, t) ← fetchByte pc0 s
    let (b2, _) ← fetchByte pc0 t
    .ok (decodePrimary op b1 b2)

/-- The slot check, which comes before any operand byte is read (41_dispatch R204, 60_exceptions R334). -/
def checkSlot (pc0 : Addr) (table : Table) (opcode : Byte) (s : State) : Except FetchError Unit :=
  if s.cfg.models table opcode then .ok () else .error ⟨.unimplementedOpcode table opcode pc0, s⟩

/-- The instruction at PC, or the fatal error its fetch meets. -/
def fetchInstr (s : State) : Except FetchError Instr := do
  let (op, s1) ← fetchByte s.pc s
  if op = 0xCB#8 then
    let (ext, s2) ← fetchByte s.pc s1
    checkSlot s.pc .extended ext s2
    .ok (decodeExtended ext)
  else
    checkSlot s.pc .primary op s1
    fetchOperands s.pc op s1

end Sys2Proof.Machine
end

