-- ==== Sys2Proof/Machine/Step.lean ====
section
/-! DEFINITION. One step of the machine (41_dispatch R200). -/

namespace Sys2Proof.Machine

/-- One instruction step: fetch, dispatch, execute, and the updates after it (41_dispatch R200). -/
def step (s : State) : Host.Outcome State Fault Refusal :=
  gate s fun s0 =>
    match fetchInstr s0 with
    | .ok i => finish (exec i s0)
    | .error x => raise x.record x.stopped

/-- The state with an instruction placed where the next step fetches it, no fatal error pending and the host's input on.
It stands for the load of the overlay or of memory from outside the machine (log 4, log 9). -/
def State.withFetchWord (s : State) (nbits w : Nat) : State :=
  { s with fault := none, hostRunning := true }.plantBytes s.pc (tableBytes nbits w)

end Sys2Proof.Machine
end

