-- ==== Sys2Proof/Safety.lean ====
section
/-! DEFINITION. The terms in which claims are stated: which byte accesses the address decoder lets through, a running
machine, and the properties that steps keep. -/

namespace Sys2Proof

/-- Parameters under which the row counter is read-only to the program: its cell is in the I/O page and no documented
write address (10_state R35, 20_memory R69). The default parameters are such. -/
def Config.rowGuarded (c : Config) : Prop := Machine.isIo c.lyAddr = true ∧ c.ioWriteOk.contains c.lyAddr = false

/-- Every cost a profile sets is below the smallest phase threshold (70_reset_and_hazards R396). -/
def Config.costsBelow80 (c : Config) : Prop := ∀ e ∈ c.cycles, e.cycles < 80

end Sys2Proof

namespace Sys2Proof.Machine

/-- A read of the address is let through (20_memory R62). -/
def State.canRead (s : State) (a : Addr) : Bool := s.overlaid a || !isIo a || s.cfg.ioReadOk.contains a

/-- The byte a permitted read of the address gives: the overlay's, or M's (20_memory R62, R63). -/
def State.byteAt (s : State) (a : Addr) : Byte :=
  if s.overlaid a then Memory.read s.cfg.boot a.toNat else Memory.read s.mem a.toNat

/-- A write to the address is let through (20_memory R71). -/
def State.canWrite (s : State) (a : Addr) : Bool :=
  decide (0x8000 ≤ a.toNat) && (!isIo a || s.cfg.ioWriteOk.contains a)

/-- Both bytes of the word at the address can be read (20_memory R76). -/
def State.canReadWord (s : State) (a : Addr) : Bool := s.canRead a && s.canRead (a + 1#16)

/-- The word a permitted read gives (20_memory R76). -/
def State.wordAt (s : State) (a : Addr) : Addr := pair (s.byteAt (a + 1#16)) (s.byteAt a)

/-- Both bytes of the word at the address can be written (20_memory R77). -/
def State.canWriteWord (s : State) (a : Addr) : Bool := s.canWrite a && s.canWrite (a + 1#16)

/-- The two byte stores of a word, the low byte first (20_memory R77). -/
def State.storeWord (s : State) (a v : Addr) : State := (s.store a (loByte v)).store (a + 1#16) (hiByte v)

/-- An instruction step exists: the host lets it and no fatal error has ended the run (10_state R38, 60_exceptions R353). -/
def State.running (s : State) : Prop := s.hostRunning = true ∧ s.fault = none

/-- The state with PC past an instruction and its cost reported, nothing else done (10_state R28, 41_dispatch R201). -/
def State.past (s : State) (length : Nat) (table : Table) (opcode : Byte) (taken : Bool) (cycles : Nat) : State :=
  { s with pc := s.pc + BitVec.ofNat 16 length, instrCycles := s.instrCycles + s.cfg.cost table opcode taken cycles }

/-- The byte M holds at an address, whatever the address decoder would answer (10_state R30). -/
def State.cell (s : State) (a : Addr) : Byte := Memory.read s.mem a.toNat

/-- The opcode byte with fields x, y, z (30_encoding R122). -/
def slotByte (x y z : Nat) : Byte := BitVec.ofNat 8 (64 * x + 8 * y + z)

/-- The four flags are these (10_state R25). -/
def State.flagsAre (s : State) (z n h c : Bool) : Prop := s.zf = z ∧ s.nf = n ∧ s.hf = h ∧ s.cf = c

/-- The answer is the fatal error with this record, and the record is what the stopped state holds; of that state nothing
else is said (60_exceptions R330, R331, R333). -/
def Stops (r : Result) (e : FatalError) : Prop :=
  match r with
  | .fault (.unimplementedOpcode table opcode pc t) => e = .unimplementedOpcode table opcode pc ∧ t.fault = some e
  | .fault (.unimplementedMemoryAccess access addr pc t) =>
    e = .unimplementedMemoryAccess access addr pc ∧ t.fault = some e
  | _ => False

/-- The cause the record names holds in the state, for an instruction that begins at `pc0` (60_exceptions R331, R332). -/
def FatalError.causedIn (e : FatalError) (s : State) (pc0 : Addr) : Prop :=
  match e with
  | .unimplementedOpcode table opcode pc => pc = pc0 ∧ s.cfg.models table opcode = false
  | .unimplementedMemoryAccess .read addr pc => pc = pc0 ∧ s.canRead addr = false
  | .unimplementedMemoryAccess (.write _) addr pc => pc = pc0 ∧ s.canWrite addr = false

/-- The row counter (10_state R35). -/
def State.row (s : State) : Byte := Memory.read s.mem s.cfg.lyAddr.toNat

/-- The low nibble of F is zero (10_state R24). -/
def State.flagsClean (s : State) : Prop := s.f &&& 0x0F#8 = 0#8

/-- The row counter is in 0..153 and the program cannot write it (10_state R35). -/
def State.rowSafe (s : State) : Prop := Config.rowGuarded s.cfg ∧ s.row.toNat ≤ 153

/-- The cycle accumulator is below the threshold of the phase (60_exceptions R349). -/
def State.scanSafe (s : State) : Prop := Config.costsBelow80 s.cfg ∧ s.scanCycles < s.phase.threshold

end Sys2Proof.Machine
end

