-- ==== Sys2Proof/Certificates/Slice0/Obligations.lean ====
section
/-! DEFINITION. The statements for the provers, each from the numbered rules of spec/ named in its docstring. In every
statement about an instruction: `State.past` is the state with PC past the instruction's bytes and its cost reported,
nothing else done; the next state is given whole, so all it does not name is unchanged. The opcode numbers (30_encoding
R128, R129), the cycle figures (70_reset_and_hazards R395) and the addresses of the I/O registers are the spec's own
general knowledge and decisions (D1, D2, D4, D13; log 16): a statement that names them rests on those. -/

open Sys2Proof Sys2Proof.Machine

/-! ## Reset -/

/-- 10_state R44: the registers, the latch, the phase, the accumulators, the record and the output history after reset,
for every choice of the open parameters. That `hostRunning` is on is the model's choice (log 7). -/
def Obligations.ResetLeavesTheStatedValues : Prop :=
  ∀ (cfg : Config) (cart : List Byte) (ramInit : Memory),
    let s := State.resetWith cfg cart ramInit
    (∀ r : Reg8, s.reg r = 0x00#8) ∧ s.f = 0x00#8 ∧ s.sp = 0xFFFE#16 ∧ s.pc = 0x0000#16 ∧ s.bootEnabled = true ∧
    s.phase = .oamSearch ∧ s.row = 0#8 ∧ s.scanCycles = 0 ∧ s.frameCycles = 0 ∧ s.instrCycles = 0 ∧ s.fault = none ∧
    s.output = [] ∧ s.cfg = cfg ∧ s.hostRunning = true

/-- 20_memory R86, 10_state R30, 70_reset_and_hazards R380: the cells of M after reset, but for the row counter's own. A byte
that `ramInit` does not list is 0x00 (log 2). -/
def Obligations.ResetMemoryIsCartridgeThenRam : Prop :=
  ∀ (cfg : Config) (cart : List Byte) (ramInit : Memory) (a : Addr), a ≠ cfg.lyAddr →
    let s := State.resetWith cfg cart ramInit
    (a.toNat < 0x4000 → s.cell a = cart.getD a.toNat 0x00#8) ∧
    (0x4000 ≤ a.toNat → a.toNat < 0x8000 → 1 ≤ bankCount cart → s.cell a = bankByte cart 0 (a.toNat - 0x4000)) ∧
    (0x4000 ≤ a.toNat → a.toNat < 0x8000 → bankCount cart = 0 → s.cell a = 0x00#8) ∧
    (0x8000 ≤ a.toNat → s.cell a = Memory.read ramInit a.toNat)

/-- The state after reset meets every invariant stated below: memory canonical (for a canonical RAM_INIT), F clean
(10_state R24), the row in range (R35), the accumulator below its threshold (60_exceptions R349); so does State.reset. That
unlisted RAM is zero and hostRunning on is the model's choice (log 2, log 7). -/
def Obligations.ResetMeetsEveryInvariant : Prop :=
  (∀ (cfg : Config) (cart : List Byte) (ramInit : Memory),
    let s := State.resetWith cfg cart ramInit
    (Memory.wf ramInit → Memory.wf s.mem) ∧ s.flagsClean ∧ (cfg.rowGuarded → s.rowSafe) ∧
    (cfg.costsBelow80 → s.scanSafe)) ∧
  Memory.wf State.reset.mem ∧ State.reset.rowSafe ∧ State.reset.scanSafe ∧ State.reset.running

/-! ## Invariants of every step -/

/-- The memory list keeps its canonical form, the model's own (log 2) for the array of 65,536 bytes of 10_state R30. -/
def Obligations.StepKeepsMemoryCanonical : Prop :=
  ∀ s t : State, Memory.wf s.mem → step s = .next t → Memory.wf t.mem

/-- 10_state R24: bits 3..0 of F are zero after reset, and every step keeps them zero. -/
def Obligations.StepKeepsLowNibbleOfFZero : Prop :=
  (∀ cfg cart ramInit, (State.resetWith cfg cart ramInit).f &&& 0x0F#8 = 0x00#8) ∧
  ∀ s t : State, s.f &&& 0x0F#8 = 0x00#8 → step s = .next t → t.f &&& 0x0F#8 = 0x00#8

/-- 10_state R35, 60_exceptions R347: the row counter stays in 0..153, whatever the program does, where its cell is an
I/O address without a write handler (as the default parameters have it). -/
def Obligations.StepKeepsRowInRange : Prop :=
  ∀ s t : State, s.cfg.rowGuarded → s.row.toNat ≤ 153 → step s = .next t → t.cfg.rowGuarded ∧ t.row.toNat ≤ 153

/-- 60_exceptions R349: `scan_cycles` stays below the threshold of the phase, where every cost a profile sets is below 80;
between steps it is then at most 203. -/
def Obligations.StepKeepsScanCyclesBelowThreshold : Prop :=
  ∀ s t : State, s.cfg.costsBelow80 → s.scanCycles < s.phase.threshold → step s = .next t →
    t.cfg.costsBelow80 ∧ t.scanCycles < t.phase.threshold ∧ t.scanCycles ≤ 203

/-- 00_scope R10, 20_memory R73, R75, 10_state R38: a step changes no parameter and no input of the host, leaves no fatal
error, changes no cell below 0x8000 but the row counter's (were it put there), and only adds to the output history.
That cfg and hostRunning are fields is the model's choice (log 1, log 7). -/
def Obligations.StepNeverChangesRomParametersOrPastOutput : Prop :=
  ∀ s t : State, step s = .next t →
    t.cfg = s.cfg ∧ t.hostRunning = s.hostRunning ∧ t.fault = s.fault ∧
    (∀ a : Addr, a.toNat < 0x8000 → a ≠ s.cfg.lyAddr → t.cell a = s.cell a) ∧
    ∃ events, t.output = s.output ++ events

/-- 41_dispatch R205, 10_state R31: after an instruction step the latch is on exactly if it was on and PC is not 0x0100; so
it is never set again. -/
def Obligations.BootLatchClearsExactlyAtPc0100 : Prop :=
  ∀ s t : State, s.running → step s = .next t →
    (t.bootEnabled = true ↔ s.bootEnabled = true ∧ t.pc ≠ 0x0100#16)

/-! ## The address decoder -/

/-- 20_memory R62: the byte read, by the first case that matches; a read is a value and changes no state. -/
def Obligations.ByteReadFollowsTheDecoder : Prop :=
  ∀ (s : State) (a : Addr),
    s.memRead a =
      if s.bootEnabled = true ∧ a.toNat < 0x0100 then .ok (Memory.read s.cfg.boot a.toNat)
      else if 0xFF00 ≤ a.toNat ∧ a.toNat < 0xFF80 then
        if a ∈ s.cfg.ioReadOk then .ok (s.cell a) else .error ⟨.read, a, s⟩
      else .ok (s.cell a)

/-- 20_memory R71: the byte write, by the first case that matches. -/
def Obligations.ByteWriteFollowsTheDecoder : Prop :=
  ∀ (s : State) (a : Addr) (v : Byte),
    s.memWrite a v =
      if s.bootEnabled = true ∧ a.toNat < 0x0100 then .error ⟨.write v, a, s⟩
      else if a.toNat < 0x8000 then .error ⟨.write v, a, s⟩
      else if a.toNat < 0xA000 then .ok (s.store a v)
      else if 0xFF00 ≤ a.toNat ∧ a.toNat < 0xFF80 then
        if a ∈ s.cfg.ioWriteOk then .ok (s.store a v) else .error ⟨.write v, a, s⟩
      else .ok (s.store a v)

/-- 20_memory R67, R74, R82: a store puts the byte in its own cell, leaves every other cell, keeps the canonical form, and
changes nothing else but the output history, which from 0xA000 on stays too. Below 0x8000 no write gets as far as a store
(R71). -/
def Obligations.StoreChangesOneCell : Prop :=
  ∀ (s : State) (a : Addr) (v : Byte),
    (∀ b : Addr, (s.store a v).cell b = if b = a then v else s.cell b) ∧
    (Memory.wf s.mem → Memory.wf (s.store a v).mem) ∧
    (s.store a v = { s with mem := (s.store a v).mem, output := (s.store a v).output }) ∧
    (0xA000 ≤ a.toNat → (s.store a v).output = s.output)

/-- 20_memory R74: a store in video RAM emits the eight pixels of its tile row in the order of the pixels, each colour read
from the pair of bytes as M holds them after the store, and changes no other state. The order, the composition of the
colour and the 9 bits of the tile index are the spec's decision D17 (log 16). -/
def Obligations.VideoStoreNotifiesEightPixels : Prop :=
  ∀ (s : State) (a : Addr) (v : Byte), 0x8000 ≤ a.toNat → a.toNat < 0xA000 →
    let t := s.store a v
    let base := BitVec.ofNat 16 (a.toNat / 2 * 2)
    let byte1 := t.cell base
    let byte2 := t.cell (base + 1#16)
    let pixels := (List.range 8).map fun px =>
      Event.tile (BitVec.ofNat 9 ((a.toNat - 0x8000) / 16)) (BitVec.ofNat 3 (a.toNat % 16 / 2)) (BitVec.ofNat 3 px)
        (BitVec.ofNat 2 (2 * (byte2.getLsbD (7 - px)).toNat + (byte1.getLsbD (7 - px)).toNat))
    t = { s with mem := t.mem, output := s.output ++ pixels }

/-- 20_memory R76, R77, R78: a word is its low byte at the address and its high byte at the next address modulo 65536; the
low byte's access comes first, so its fatal error is the one reported. -/
def Obligations.WordsAreLittleEndianLowByteFirst : Prop :=
  ∀ (s : State) (a v : Addr),
    (s.canRead a = false → s.memRead2 a = .error ⟨.read, a, s⟩) ∧
    (s.canRead a = true → s.canRead (a + 1#16) = false → s.memRead2 a = .error ⟨.read, a + 1#16, s⟩) ∧
    (s.canRead a = true → s.canRead (a + 1#16) = true →
      s.memRead2 a = .ok (BitVec.ofNat 16 (256 * (s.byteAt (a + 1#16)).toNat + (s.byteAt a).toNat))) ∧
    (s.canWrite a = false → s.memWrite2 a v = .error ⟨.write (BitVec.ofNat 8 (v.toNat % 256)), a, s⟩) ∧
    (s.canWrite a = true → s.canWrite (a + 1#16) = false → ∃ t,
      s.memWrite2 a v = .error ⟨.write (BitVec.ofNat 8 (v.toNat / 256)), a + 1#16, t⟩) ∧
    (s.canWrite a = true → s.canWrite (a + 1#16) = true → ∃ t, s.memWrite2 a v = .ok t ∧
      (∀ b : Addr, t.cell b = if b = a + 1#16 then BitVec.ofNat 8 (v.toNat / 256)
        else if b = a then BitVec.ofNat 8 (v.toNat % 256) else s.cell b) ∧
      (s.canRead a = true → s.canRead (a + 1#16) = true → t.memRead2 a = .ok v))

/-- 10_state R20, R21, R23, 30_encoding R123: what each operand name stands for. A register name is its own field; a pair is
its two registers, the first-named high; a write to it writes both and nothing else, and reads back. The stack names BC,
DE and HL are the same pairs; a write to AF drops the low nibble of F (R23, the spec's general knowledge; log 16). -/
def Obligations.PairsAreViewsOfTheirRegisters : Prop :=
  ∀ (s : State) (x : Addr) (v : Byte),
    (s.reg .a = s.a ∧ s.reg .b = s.b ∧ s.reg .c = s.c ∧ s.reg .d = s.d ∧ s.reg .e = s.e ∧ s.reg .h = s.h ∧
      s.reg .l = s.l) ∧
    (s.setReg .a v = { s with a := v } ∧ s.setReg .b v = { s with b := v } ∧ s.setReg .c v = { s with c := v } ∧
      s.setReg .d v = { s with d := v } ∧ s.setReg .e v = { s with e := v } ∧ s.setReg .h v = { s with h := v } ∧
      s.setReg .l v = { s with l := v }) ∧
    (s.reg16 .bc = BitVec.ofNat 16 (256 * s.b.toNat + s.c.toNat) ∧
      s.reg16 .de = BitVec.ofNat 16 (256 * s.d.toNat + s.e.toNat) ∧
      s.reg16 .hl = BitVec.ofNat 16 (256 * s.h.toNat + s.l.toNat) ∧ s.hl = s.reg16 .hl ∧ s.reg16 .sp = s.sp) ∧
    (s.stk .bc = s.reg16 .bc ∧ s.stk .de = s.reg16 .de ∧ s.stk .hl = s.reg16 .hl ∧
      s.stk .af = BitVec.ofNat 16 (256 * s.a.toNat + s.f.toNat)) ∧
    (let hi := BitVec.ofNat 8 (x.toNat / 256)
     let lo := BitVec.ofNat 8 (x.toNat % 256)
     s.setReg16 .bc x = { s with b := hi, c := lo } ∧ s.setReg16 .de x = { s with d := hi, e := lo } ∧
     s.setReg16 .hl x = { s with h := hi, l := lo } ∧ s.setReg16 .sp x = { s with sp := x } ∧
     s.setStk .bc x = s.setReg16 .bc x ∧ s.setStk .de x = s.setReg16 .de x ∧ s.setStk .hl x = s.setReg16 .hl x ∧
     s.setStk .af x = { s with a := hi, f := lo &&& 0xF0#8 }) ∧
    (∀ r : Reg16, (s.setReg16 r x).reg16 r = x)

/-! ## Encoding -/

/-- 30_encoding R121, R125, R128, R129: every whole instruction decodes from its own bytes, with every operand value and
whatever bytes follow. -/
def Obligations.DecodeOfEncodeIsTheInstruction : Prop :=
  ∀ (i : Instr), i.wellFormed = true → ∀ rest : List Byte, decode (encode i ++ rest) = .ok (i, rest)

/-- 30_encoding R136: every instruction matches one row, so bytes that decode to a whole instruction are that
instruction's encoding and the bytes that follow. -/
def Obligations.EncodeOfDecodeIsTheBytes : Prop :=
  ∀ (bytes rest : List Byte) (i : Instr), decode bytes = .ok (i, rest) → i.wellFormed = true →
    bytes = encode i ++ rest

/-- 30_encoding R121, R128, R129: words written out from the map, one or more for each family. -/
def Obligations.WordsOfTheMapDecode : Prop :=
  decode [0x41#8] = .ok (.ld_B_C, []) ∧ decode [0x36#8, 0xAB#8] = .ok (.ld_atHL_n8 0xAB#8, []) ∧
  decode [0x21#8, 0x00#8, 0x80#8] = .ok (.ld_HL_n16 0x8000#16, []) ∧
  decode [0x08#8, 0x00#8, 0xC1#8] = .ok (.ld_atN16_SP 0xC100#16, []) ∧ decode [0x8B#8] = .ok (.adc_E, []) ∧
  decode [0xFE#8, 0x2F#8] = .ok (.cp_n8 0x2F#8, []) ∧ decode [0x34#8] = .ok (.inc_atHL, []) ∧
  decode [0x20#8, 0xFC#8] = .ok (.jr_NZ_e8 0xFC#8, []) ∧ decode [0xF5#8] = .ok (.push_AF, []) ∧
  decode [0xCD#8, 0x10#8, 0x01#8] = .ok (.call_n16 0x0110#16, []) ∧ decode [0xEF#8] = .ok (.rst_28, []) ∧
  decode [0x17#8] = .ok (.rla, []) ∧ decode [0xCB#8, 0x26#8] = .ok (.sla_atHL, []) ∧
  decode [0xCB#8, 0x7C#8] = .ok (.bit_7_H, []) ∧ decode [0xCB#8, 0xCB#8] = .ok (.set_1_E, []) ∧
  decode [0xD3#8] = .ok (.unimpl_D3, []) ∧ decode [0x76#8] = .ok (.halt, [])

/-! ## The step -/

/-- 41_dispatch R200: when the bytes at PC can be read and are those of a whole instruction, the step is that instruction
with no cost reported yet, and then the updates that follow an instruction; after a fatal error there are none. That
exec begins with PC at the first byte is the model's form (log 12). -/
def Obligations.StepRunsTheDecodedInstruction : Prop :=
  ∀ (s : State) (i : Instr), s.running → i.wellFormed = true →
    (∀ (k : Nat) (v : Byte), (encode i)[k]? = some v →
      s.canRead (s.pc + BitVec.ofNat 16 k) = true ∧ s.byteAt (s.pc + BitVec.ofNat 16 k) = v) →
    (∀ t, exec i { s with instrCycles := 0 } = .next t → step s = .next (afterInstruction t)) ∧
    (∀ f, exec i { s with instrCycles := 0 } = .fault f → step s = .fault f)

/-- 60_exceptions R334, 41_dispatch R204: the fatal errors of a fetch, in their order: the opcode byte, the extended byte,
the slot (before any operand byte is read), the operand bytes in address order. -/
def Obligations.FetchErrorsComeInOrder : Prop :=
  ∀ s : State, s.running →
    let op := s.byteAt s.pc
    let ext := s.byteAt (s.pc + 1#16)
    let unreadable (a : Addr) := Stops (step s) (.unimplementedMemoryAccess .read a s.pc)
    (s.canRead s.pc = false → unreadable s.pc) ∧
    (s.canRead s.pc = true → op = 0xCB#8 →
      (s.canRead (s.pc + 1#16) = false → unreadable (s.pc + 1#16)) ∧
      (s.canRead (s.pc + 1#16) = true → s.cfg.models .extended ext = false →
        Stops (step s) (.unimplementedOpcode .extended ext s.pc))) ∧
    (s.canRead s.pc = true → op ≠ 0xCB#8 →
      (s.cfg.models .primary op = false → Stops (step s) (.unimplementedOpcode .primary op s.pc)) ∧
      (s.cfg.models .primary op = true → 1 ≤ operandCount op → s.canRead (s.pc + 1#16) = false →
        unreadable (s.pc + 1#16)) ∧
      (s.cfg.models .primary op = true → operandCount op = 2 → s.canRead (s.pc + 1#16) = true →
        s.canRead (s.pc + 2#16) = false → unreadable (s.pc + 2#16)))

/-- 10_state R38, 60_exceptions R336, R353: no step follows a fatal error, and none is taken when the host has stopped. That
the first is answered by a fault of its own and the second by the same state is the model's form (log 6, log 7). -/
def Obligations.NoStepAfterFaultOrHostStop : Prop :=
  ∀ s : State, (s.hostRunning = false → step s = .next s) ∧
    (∀ e, s.hostRunning = true → s.fault = some e → step s = .fault (.noFurtherStep e))

/-- 41_dispatch R203, R204, R207 to R209, 30_encoding R131: an instruction whose slot the parameters leave out stops with
UnimplementedOpcode, naming the slot and the address of its first byte; no parameters model the eleven empty slots, HALT
and STOP, which so stop in every state; all model 0xCB; the default models the 240 slots of R131. Which slots those are and
which address is named are the spec's decisions D3, D5 and D16 (log 16); the form of a profile is the model's (log 13). -/
def Obligations.UnmodeledSlotsAreFatal : Prop :=
  (∀ (i : Instr) (s : State), i.wellFormed = true → s.cfg.models (slotOf i).1 (slotOf i).2 = false →
    Stops (exec i s) (.unimplementedOpcode (slotOf i).1 (slotOf i).2 s.pc)) ∧
  (∀ s : State, ∀ p ∈
      [(Instr.stop, 0x10#8), (.halt, 0x76#8), (.unimpl_D3, 0xD3#8), (.unimpl_DB, 0xDB#8), (.unimpl_DD, 0xDD#8),
        (.unimpl_E3, 0xE3#8), (.unimpl_E4, 0xE4#8), (.unimpl_EB, 0xEB#8), (.unimpl_EC, 0xEC#8), (.unimpl_ED, 0xED#8),
        (.unimpl_F4, 0xF4#8), (.unimpl_FC, 0xFC#8), (.unimpl_FD, 0xFD#8)],
      Stops (exec p.1 s) (.unimplementedOpcode .primary p.2 s.pc)) ∧
  (∀ c : Config, c.models .primary 0xCB#8 = true ∧
    ∀ op ∈ [0x10#8, 0x76#8, 0xD3#8, 0xDB#8, 0xDD#8, 0xE3#8, 0xE4#8, 0xEB#8, 0xEC#8, 0xED#8, 0xF4#8, 0xFC#8, 0xFD#8],
      c.models .primary op = false) ∧
  (∀ op : Byte, Config.default.models .extended op = true ∧
    (Config.default.models .primary op = true ↔
      op ∉ [0xD3#8, 0xDB#8, 0xDD#8, 0xE3#8, 0xE4#8, 0xEB#8, 0xEC#8, 0xED#8, 0xF4#8, 0xFC#8, 0xFD#8,
        0x10#8, 0x76#8, 0xF3#8, 0xFB#8, 0xD9#8]))

/-- 60_exceptions R332, R331: a running machine's step is refused in no case and ends in a fatal error only for one of the
listed causes, each of which names the address of the instruction's first byte; the same for every instruction. -/
def Obligations.OnlyTheListedCausesAreFatal : Prop :=
  (∀ s : State, s.running → ∀ f, step s = .fault f → ∃ e, Stops (.fault f) e ∧ e.causedIn s s.pc) ∧
  (∀ (i : Instr) (s : State) (f : Fault), exec i s = .fault f → ∃ e, Stops (.fault f) e ∧ e.causedIn s s.pc) ∧
  (∀ (s : State) (q : Refusal), step s ≠ .refused q) ∧
  ∀ (i : Instr) (s : State) (q : Refusal), exec i s ≠ .refused q

/-- 70_reset_and_hazards R396, 41_dispatch R201: under another CYCLES an instruction gives the same state but for the cost
it reports, and completes in exactly the same states. CYCLES as a list of exceptions to the default is the model's form
(log 14). -/
def Obligations.CyclesReachOnlyTheReportedCost : Prop :=
  ∀ (i : Instr) (s : State) (entries : List CycleEntry),
    let other (x : State) : State := { x with cfg := { x.cfg with cycles := entries } }
    (∀ t, exec i s = .next t → ∃ n, exec i (other s) = .next { other t with instrCycles := n }) ∧
    (∀ t, exec i (other s) = .next t → ∃ u, exec i s = .next u)

/-- 60_exceptions R345, R346, R347: one transition at most, by the phase and its threshold, the remainder kept; completing
horizontal blank moves the row counter on, from 153 to 0. One transition for each update is the spec's decision D15
(log 16). -/
def Obligations.ScanlineUpdateMakesOneTransition : Prop :=
  ∀ (s : State) (n : Nat),
    let c := s.scanCycles + n
    (s.phase = .oamSearch → 80 ≤ c → scanlineUpdate n s = { s with scanCycles := c - 80, phase := .pixelTransfer }) ∧
    (s.phase = .pixelTransfer → 172 ≤ c → scanlineUpdate n s = { s with scanCycles := c - 172, phase := .hblank }) ∧
    (s.phase = .hblank → 204 ≤ c → ∃ m,
      scanlineUpdate n s = { s with scanCycles := c - 204, phase := .oamSearch, mem := m } ∧
      ∀ a : Addr, Memory.read m a.toNat =
        if a = s.cfg.lyAddr then (if s.row = 153#8 then 0#8 else BitVec.ofNat 8 (s.row.toNat + 1)) else s.cell a) ∧
    ((s.phase = .oamSearch ∧ c < 80) ∨ (s.phase = .pixelTransfer ∧ c < 172) ∨ (s.phase = .hblank ∧ c < 204) →
      scanlineUpdate n s = { s with scanCycles := c })

/-- 60_exceptions R352, 41_dispatch R200: what follows an instruction is the latch, the scanline update and the frame
update, each with the cost reported; the frame update emits one pulse when the budget is reached and keeps the rest. -/
def Obligations.FrameUpdateEmitsOnePulsePerBudget : Prop :=
  (∀ s : State, afterInstruction s = frameUpdate s.instrCycles (scanlineUpdate s.instrCycles
    { s with bootEnabled := s.bootEnabled && decide (s.pc ≠ 0x0100#16) })) ∧
  ∀ (s : State) (n : Nat),
    (s.cfg.frameBudget ≤ s.frameCycles + n → frameUpdate n s =
      { s with frameCycles := s.frameCycles + n - s.cfg.frameBudget, output := s.output ++ [.frameElapsed] }) ∧
    (s.frameCycles + n < s.cfg.frameBudget → frameUpdate n s = { s with frameCycles := s.frameCycles + n })

/-! ## The flag computations -/

/-- 40_alu8 R150, with the spec's decisions D6 and D7 (log 16): `add_a`, H from the raw operand alone, the carry-in added without
reducing the operand. -/
def Obligations.AddSetsSumAndFlags : Prop :=
  ∀ (s : State) (v : Byte) (k : AluOp), k = .add ∨ k = .adc →
    let t := alu k v s
    let cin := if k = .adc ∧ s.cf = true then 1 else 0
    t = { s with a := t.a, f := t.f } ∧ t.a = BitVec.ofNat 8 (s.a.toNat + v.toNat + cin) ∧
    t.flagsAre (t.a == 0#8) false (decide (0xF < s.a.toNat % 16 + v.toNat % 16))
      (decide (0xFF < s.a.toNat + v.toNat + cin)) ∧ t.flagsClean

/-- 40_alu8 R151, R152, R153: `do_sub`, `cmp_a_with` and `sbc_a` in their closed forms; compare leaves A and its flags are
those of the subtraction. SBC's rule R153 is the spec's general knowledge (log 16), and the closed forms are its inference. -/
def Obligations.SubtractSetsDifferenceAndBorrows : Prop :=
  ∀ (s : State) (v : Byte),
    (∀ k : AluOp, k = .sub ∨ k = .sbc →
      let t := alu k v s
      let cin := if k = .sbc ∧ s.cf = true then 1 else 0
      t = { s with a := t.a, f := t.f } ∧
      t.a = BitVec.ofInt 8 ((s.a.toNat : Int) - (v.toNat : Int) - (cin : Int)) ∧
      t.flagsAre (t.a == 0#8) true (decide (s.a.toNat % 16 < v.toNat % 16 + cin))
        (decide (s.a.toNat < v.toNat + cin)) ∧ t.flagsClean) ∧
    alu .cp v s = { s with f := (alu .sub v s).f }

/-- 40_alu8 R154, the spec's general knowledge (log 16): the logic operations and their flags. -/
def Obligations.LogicSetsResultAndFlags : Prop :=
  ∀ (s : State) (v : Byte),
    let x := s.a &&& v
    let y := s.a ^^^ v
    let z := s.a ||| v
    alu .and v s = { s with a := x, f := if x = 0#8 then 0xA0#8 else 0x20#8 } ∧
    alu .xor v s = { s with a := y, f := if y = 0#8 then 0x80#8 else 0x00#8 } ∧
    alu .or v s = { s with a := z, f := if z = 0#8 then 0x80#8 else 0x00#8 }

/-- 40_alu8 R183: Z and H of an increment and a decrement from the value before it, in both modes of
INCDEC_H_MODE (the spec's decision D8; log 15); C and all else kept. What happens to N and C is the spec's general knowledge
(log 16). -/
def Obligations.IncDecFlagsComeFromTheOldValue : Prop :=
  ∀ (s : State) (pre : Byte),
    (let t := inc8Flags pre s
     t = { s with f := t.f } ∧ t.f &&& 0x0F#8 = s.f &&& 0x0F#8 ∧
     t.flagsAre (pre == 0xFF#8) false
       (match s.cfg.incDecHMode with | .nibble => decide (pre.toNat % 16 = 15) | .literal => pre == 0x0F#8) s.cf) ∧
    (let t := dec8Flags pre s
     t = { s with f := t.f } ∧ t.f &&& 0x0F#8 = s.f &&& 0x0F#8 ∧
     t.flagsAre (pre == 0x01#8) true
       (match s.cfg.incDecHMode with | .nibble => decide (pre.toNat % 16 = 0) | .literal => pre == 0x10#8) s.cf)

/-- 40_alu8 R188, with R150 and R151: after the addition or the subtraction of two numbers of two decimal digits, DAA gives
the decimal result of two digits and the decimal carry or borrow. R188 is the
spec's general knowledge (log 16). -/
def Obligations.DaaCorrectsDecimalSumAndDifference : Prop :=
  ∀ (s : State) (x1 x0 y1 y0 : Fin 10),
    let x := 10 * x1.val + x0.val
    let y := 10 * y1.val + y0.val
    let decimal (n : Nat) : Byte := BitVec.ofNat 8 (16 * (n / 10 % 10) + n % 10)
    s.a = decimal x →
      (let t := daaA (alu .add (decimal y) s)
       t.a = decimal (x + y) ∧ t.cf = decide (100 ≤ x + y) ∧ t.zf = decide ((x + y) % 100 = 0)) ∧
      (let t := daaA (alu .sub (decimal y) s)
       t.a = decimal (x + 100 - y) ∧ t.cf = decide (x < y) ∧ t.zf = decide (x = y))

/-- 45_rotate_bit R305 to R312, R316: the result and the bit that goes to C, as rotations of 8 bits, of the 9 bits carry and
operand, as arithmetic, and as an exchange of nibbles. -/
def Obligations.RotatesAndShiftsByTheirLaws : Prop :=
  ∀ (v : Byte) (c : Bool),
    rotate .rlc c v = (v.rotateLeft 1, v.getLsbD 7) ∧ rotate .rrc c v = (v.rotateRight 1, v.getLsbD 0) ∧
    BitVec.ofBool (rotate .rl c v).2 ++ (rotate .rl c v).1 = (BitVec.ofBool c ++ v).rotateLeft 1 ∧
    BitVec.ofBool (rotate .rr c v).2 ++ (rotate .rr c v).1 = (BitVec.ofBool c ++ v).rotateRight 1 ∧
    rotate .sla c v = (BitVec.ofNat 8 (2 * v.toNat), decide (128 ≤ v.toNat)) ∧
    rotate .srl c v = (BitVec.ofNat 8 (v.toNat / 2), decide (v.toNat % 2 = 1)) ∧
    rotate .sra c v = (BitVec.ofInt 8 (v.toInt / 2), decide (v.toNat % 2 = 1)) ∧
    rotate .swap c v = (v.rotateLeft 4, false)

/-! ## Loads -/

/-- 43_load8 R250, R253: LD r8,r8' (49 instructions) and LD r8,n8 (7). -/
def Obligations.LoadRegisterResult : Prop :=
  (∀ (d r : Reg8) (s : State),
    let i := ldForm (.reg d) (.reg r)
    let op := slotByte 1 (Operand8.reg d).index (Operand8.reg r).index
    encode i = [op] ∧ (s.cfg.models .primary op = true →
      exec i s = .next ((s.past 1 .primary op false 4).setReg d (s.reg r)))) ∧
  (∀ (d : Reg8) (n8 : Byte) (s : State),
    let i := ldImmForm (.reg d) n8
    let op := slotByte 0 (Operand8.reg d).index 6
    encode i = [op, n8] ∧ (s.cfg.models .primary op = true →
      exec i s = .next ((s.past 2 .primary op false 8).setReg d n8)))

/-- 43_load8 R251: LD r8,(HL) (7 instructions), the address being HL before the load. -/
def Obligations.LoadFromHLResult : Prop :=
  ∀ (d : Reg8) (s : State),
    let i := ldForm (.reg d) .atHL
    let op := slotByte 1 (Operand8.reg d).index 6
    encode i = [op] ∧ (s.cfg.models .primary op = true →
      (s.canRead s.hl = true → exec i s = .next ((s.past 1 .primary op false 8).setReg d (s.byteAt s.hl))) ∧
      (s.canRead s.hl = false → Stops (exec i s) (.unimplementedMemoryAccess .read s.hl s.pc)))

/-- 43_load8 R252, R254: LD (HL),r8 (7 instructions) and LD (HL),n8. -/
def Obligations.StoreToHLResult : Prop :=
  (∀ (r : Reg8) (s : State),
    let i := ldForm .atHL (.reg r)
    let op := slotByte 1 6 (Operand8.reg r).index
    let t := (s.past 1 .primary op false 8).store s.hl (s.reg r)
    encode i = [op] ∧ (s.cfg.models .primary op = true →
      (s.canWrite s.hl = true →
        exec i s = .next t ∧ ∀ b : Addr, t.cell b = if b = s.hl then s.reg r else s.cell b) ∧
      (s.canWrite s.hl = false →
        Stops (exec i s) (.unimplementedMemoryAccess (.write (s.reg r)) s.hl s.pc)))) ∧
  (∀ (n8 : Byte) (s : State),
    let t := (s.past 2 .primary 0x36#8 false 12).store s.hl n8
    encode (.ld_atHL_n8 n8) = [0x36#8, n8] ∧ (s.cfg.models .primary 0x36#8 = true →
      (s.canWrite s.hl = true →
        exec (.ld_atHL_n8 n8) s = .next t ∧ ∀ b : Addr, t.cell b = if b = s.hl then n8 else s.cell b) ∧
      (s.canWrite s.hl = false →
        Stops (exec (.ld_atHL_n8 n8) s) (.unimplementedMemoryAccess (.write n8) s.hl s.pc))))

/-- 43_load8 R255, R256, R259, R260, R262, R264, R267, R269: A stored through BC, DE, HL with post-increment or
post-decrement, in the high page, and at an absolute address. First the addresses, and HL after the access. -/
def Obligations.StoreAccumulatorResult : Prop :=
  (∀ (s : State) (n : Byte),
    Mem16.addr .atBC s = s.reg16 .bc ∧ Mem16.addr .atDE s = s.reg16 .de ∧ Mem16.addr .atHLI s = s.hl ∧
    Mem16.addr .atHLD s = s.hl ∧ Mem16.post .atBC s = s ∧ Mem16.post .atDE s = s ∧
    (Mem16.post .atHLI s).hl = BitVec.ofNat 16 (s.hl.toNat + 1) ∧
    (Mem16.post .atHLD s).hl = BitVec.ofNat 16 (s.hl.toNat + 65535) ∧
    (∀ m : Mem16, m.post s = { s with h := (m.post s).h, l := (m.post s).l }) ∧
    (highPage n).toNat = 0xFF00 + n.toNat) ∧
  ∀ s : State,
    (∀ m : Mem16,
      let op := slotByte 0 (2 * m.index) 2
      let t := (s.past 1 .primary op false 8).store (m.addr s) s.a
      encode (storeAForm m) = [op] ∧ (s.cfg.models .primary op = true →
        (s.canWrite (m.addr s) = true → exec (storeAForm m) s = .next (m.post t) ∧
          ∀ b : Addr, (m.post t).cell b = if b = m.addr s then s.a else s.cell b) ∧
        (s.canWrite (m.addr s) = false →
          Stops (exec (storeAForm m) s) (.unimplementedMemoryAccess (.write s.a) (m.addr s) s.pc)))) ∧
    (∀ p : Instr × List Byte × Addr × Nat × Nat,
      ((∃ n, p = (.ldh_atN8_A n, [0xE0#8, n], highPage n, 2, 12)) ∨ p = (.ld_atC_A, [0xE2#8], highPage s.c, 1, 8) ∨
        ∃ n : Addr, p = (.ld_atN16_A n, [0xEA#8, loByte n, hiByte n], n, 3, 16)) →
      let (i, bytes, a, len, cycles) := p
      let op := bytes.headD 0#8
      let t := (s.past len .primary op false cycles).store a s.a
      encode i = bytes ∧ (s.cfg.models .primary op = true →
        (s.canWrite a = true → exec i s = .next t ∧ ∀ b : Addr, t.cell b = if b = a then s.a else s.cell b) ∧
        (s.canWrite a = false → Stops (exec i s) (.unimplementedMemoryAccess (.write s.a) a s.pc))))

/-- 43_load8 R257, R258, R261, R266, R263, R265, R268: A loaded through BC, DE, HL with post-increment or post-decrement, from
the high page, and from an absolute address; the addresses and HL after the access are those of the stores. -/
def Obligations.LoadAccumulatorResult : Prop :=
  ∀ s : State,
    (∀ m : Mem16,
      let op := slotByte 0 (2 * m.index + 1) 2
      encode (loadAForm m) = [op] ∧ (s.cfg.models .primary op = true →
        (s.canRead (m.addr s) = true → exec (loadAForm m) s =
          .next (m.post { s.past 1 .primary op false 8 with a := s.byteAt (m.addr s) })) ∧
        (s.canRead (m.addr s) = false →
          Stops (exec (loadAForm m) s) (.unimplementedMemoryAccess .read (m.addr s) s.pc)))) ∧
    (∀ p : Instr × List Byte × Addr × Nat × Nat,
      ((∃ n, p = (.ldh_A_atN8 n, [0xF0#8, n], highPage n, 2, 12)) ∨ p = (.ld_A_atC, [0xF2#8], highPage s.c, 1, 8) ∨
        ∃ n : Addr, p = (.ld_A_atN16 n, [0xFA#8, loByte n, hiByte n], n, 3, 16)) →
      let (i, bytes, a, len, cycles) := p
      let op := bytes.headD 0#8
      encode i = bytes ∧ (s.cfg.models .primary op = true →
        (s.canRead a = true → exec i s = .next { s.past len .primary op false cycles with a := s.byteAt a }) ∧
        (s.canRead a = false → Stops (exec i s) (.unimplementedMemoryAccess .read a s.pc))))

/-- 44_load16_arith16 R280, R282: LD r16,n16 (4 instructions) and LD SP,HL. -/
def Obligations.LoadPairResult : Prop :=
  ∀ s : State,
    (∀ (r : Reg16) (n16 : Addr),
      let op := slotByte 0 (2 * r.index) 1
      encode (ld16Form r n16) = [op, loByte n16, hiByte n16] ∧ (s.cfg.models .primary op = true →
        exec (ld16Form r n16) s = .next ((s.past 3 .primary op false 12).setReg16 r n16))) ∧
    encode .ld_SP_HL = [0xF9#8] ∧ (s.cfg.models .primary 0xF9#8 = true →
      exec .ld_SP_HL s = .next { s.past 1 .primary 0xF9#8 false 8 with sp := s.hl })

/-- 44_load16_arith16 R281: LD (n16),SP, the low byte of SP at the address. -/
def Obligations.StoreStackPointerResult : Prop :=
  ∀ (n16 : Addr) (s : State),
    let i := Instr.ld_atN16_SP n16
    let lo := loByte s.sp
    let hi := hiByte s.sp
    let t := ((s.past 3 .primary 0x08#8 false 20).store n16 lo).store (n16 + 1#16) hi
    encode i = [0x08#8, loByte n16, hiByte n16] ∧ (s.cfg.models .primary 0x08#8 = true →
      (s.canWrite n16 = true → s.canWrite (n16 + 1#16) = true → exec i s = .next t ∧
        ∀ b : Addr, t.cell b = if b = n16 + 1#16 then hi else if b = n16 then lo else s.cell b) ∧
      (s.canWrite n16 = false → Stops (exec i s) (.unimplementedMemoryAccess (.write lo) n16 s.pc)) ∧
      (s.canWrite n16 = true → s.canWrite (n16 + 1#16) = false →
        Stops (exec i s) (.unimplementedMemoryAccess (.write hi) (n16 + 1#16) s.pc)))

/-! ## Arithmetic on pairs -/

/-- 44_load16_arith16 R283, R287: LD HL,SP+e8 and ADD SP,e8: the signed displacement added, H and C from the unsigned
addition of the low bytes, Z and N cleared. -/
def Obligations.StackPointerDisplacementResult : Prop :=
  ∀ (e8 : Byte) (s : State),
    let sum := BitVec.ofInt 16 ((s.sp.toNat : Int) + e8.toInt)
    let f := (if 0x0F < s.sp.toNat % 16 + e8.toNat % 16 then 0x20#8 else 0x00#8) |||
      (if 0xFF < s.sp.toNat % 256 + e8.toNat then 0x10#8 else 0x00#8)
    (encode (.ld_HL_SPe8 e8) = [0xF8#8, e8] ∧ (s.cfg.models .primary 0xF8#8 = true → exec (.ld_HL_SPe8 e8) s =
      .next { (s.past 2 .primary 0xF8#8 false 12).setReg16 .hl sum with f := f })) ∧
    (encode (.add_SP_e8 e8) = [0xE8#8, e8] ∧ (s.cfg.models .primary 0xE8#8 = true → exec (.add_SP_e8 e8) s =
      .next { s.past 2 .primary 0xE8#8 false 16 with sp := sum, f := f }))

/-- 44_load16_arith16 R284, R285: INC r16 and DEC r16 (8 instructions), with no flag. -/
def Obligations.IncDecPairResult : Prop :=
  ∀ (r : Reg16) (s : State),
    (let op := slotByte 0 (2 * r.index) 3
     encode (inc16Form r) = [op] ∧ (s.cfg.models .primary op = true → exec (inc16Form r) s =
       .next ((s.past 1 .primary op false 8).setReg16 r (BitVec.ofNat 16 ((s.reg16 r).toNat + 1))))) ∧
    (let op := slotByte 0 (2 * r.index + 1) 3
     encode (dec16Form r) = [op] ∧ (s.cfg.models .primary op = true → exec (dec16Form r) s =
       .next ((s.past 1 .primary op false 8).setReg16 r (BitVec.ofNat 16 ((s.reg16 r).toNat + 65535)))))

/-- 44_load16_arith16 R286: ADD HL,r16 (4 instructions): H out of bit 11, C out of bit 15, N cleared, Z kept. -/
def Obligations.AddToHLResult : Prop :=
  ∀ (r : Reg16) (s : State),
    let op := slotByte 0 (2 * r.index + 1) 1
    let v := s.reg16 r
    encode (addHLForm r) = [op] ∧ (s.cfg.models .primary op = true →
      ∃ t, exec (addHLForm r) s = .next t ∧
        t = { (s.past 1 .primary op false 8).setReg16 .hl (BitVec.ofNat 16 (s.hl.toNat + v.toNat)) with f := t.f } ∧
        t.flagsAre s.zf false (decide (0x0FFF < s.hl.toNat % 0x1000 + v.toNat % 0x1000))
          (decide (0xFFFF < s.hl.toNat + v.toNat)) ∧ t.f &&& 0x0F#8 = s.f &&& 0x0F#8)

/-! ## Arithmetic and logic on bytes -/

/-- 40_alu8 R155 and the rules of its table (R156 to R179): the eight operations on a register (56 instructions), read
before A is written, on an immediate (8) and on the byte at HL (8). What each does to A and F is stated above. -/
def Obligations.AluResult : Prop :=
  ∀ (k : AluOp) (s : State),
    (∀ r : Reg8,
      let op := slotByte 2 k.index (Operand8.reg r).index
      encode (aluForm k (.reg r)) = [op] ∧ (s.cfg.models .primary op = true →
        exec (aluForm k (.reg r)) s = .next (alu k (s.reg r) (s.past 1 .primary op false 4)))) ∧
    (∀ n8 : Byte,
      let op := slotByte 3 k.index 6
      encode (aluImmForm k n8) = [op, n8] ∧ (s.cfg.models .primary op = true →
        exec (aluImmForm k n8) s = .next (alu k n8 (s.past 2 .primary op false 8)))) ∧
    (let i := aluForm k .atHL
     let op := slotByte 2 k.index 6
     encode i = [op] ∧ (s.cfg.models .primary op = true →
       (s.canRead s.hl = true → exec i s = .next (alu k (s.byteAt s.hl) (s.past 1 .primary op false 8))) ∧
       (s.canRead s.hl = false → Stops (exec i s) (.unimplementedMemoryAccess .read s.hl s.pc))))

/-- 40_alu8 R184 to R187: INC r8 and DEC r8 (14 instructions), INC (HL) and DEC (HL): the operand, then the flags, which
R183 derives from the old value. -/
def Obligations.IncDecResult : Prop :=
  (∀ (r : Reg8) (s : State),
    (let op := slotByte 0 (Operand8.reg r).index 4
     encode (incForm (.reg r)) = [op] ∧ (s.cfg.models .primary op = true → exec (incForm (.reg r)) s =
       .next (inc8Flags (s.reg r)
         ((s.past 1 .primary op false 4).setReg r (BitVec.ofNat 8 ((s.reg r).toNat + 1)))))) ∧
    (let op := slotByte 0 (Operand8.reg r).index 5
     encode (decForm (.reg r)) = [op] ∧ (s.cfg.models .primary op = true → exec (decForm (.reg r)) s =
       .next (dec8Flags (s.reg r)
         ((s.past 1 .primary op false 4).setReg r (BitVec.ofNat 8 ((s.reg r).toNat + 255))))))) ∧
  ∀ s : State, ∀ p ∈ [(Instr.inc_atHL, 0x34#8, s.byteAt s.hl + 1#8, inc8Flags),
      (Instr.dec_atHL, 0x35#8, s.byteAt s.hl - 1#8, dec8Flags)],
    let (i, op, v, flagsOf) := p
    let t := flagsOf (s.byteAt s.hl) ((s.past 1 .primary op false 12).store s.hl v)
    encode i = [op] ∧ (s.cfg.models .primary op = true →
      (s.canRead s.hl = true → s.canWrite s.hl = true →
        exec i s = .next t ∧ ∀ b : Addr, t.cell b = if b = s.hl then v else s.cell b) ∧
      (s.canRead s.hl = false → Stops (exec i s) (.unimplementedMemoryAccess .read s.hl s.pc)) ∧
      (s.canRead s.hl = true → s.canWrite s.hl = false →
        Stops (exec i s) (.unimplementedMemoryAccess (.write v) s.hl s.pc)))

/-- 40_alu8 R188 to R191: DAA, CPL, SCF and CCF. -/
def Obligations.AdjustmentResult : Prop :=
  ∀ s : State,
    (encode .daa = [0x27#8] ∧ (s.cfg.models .primary 0x27#8 = true →
      let low := if s.nf = true then s.hf = true else s.hf = true ∨ 9 < s.a.toNat % 16
      let high := if s.nf = true then s.cf = true else s.cf = true ∨ 0x99 < s.a.toNat
      ∃ t, exec .daa s = .next t ∧ t = { s.past 1 .primary 0x27#8 false 4 with a := t.a, f := t.f } ∧
        (low → high → t.a = if s.nf = true then s.a - 0x66#8 else s.a + 0x66#8) ∧
        (low → ¬high → t.a = if s.nf = true then s.a - 0x06#8 else s.a + 0x06#8) ∧
        (¬low → high → t.a = if s.nf = true then s.a - 0x60#8 else s.a + 0x60#8) ∧ (¬low → ¬high → t.a = s.a) ∧
        t.zf = (t.a == 0#8) ∧ t.nf = s.nf ∧ t.hf = false ∧ (t.cf = true ↔ high) ∧
        t.f &&& 0x0F#8 = s.f &&& 0x0F#8)) ∧
    (encode .cpl = [0x2F#8] ∧ (s.cfg.models .primary 0x2F#8 = true → exec .cpl s =
      .next { s.past 1 .primary 0x2F#8 false 4 with a := ~~~s.a, f := s.f ||| 0x60#8 })) ∧
    (encode .scf = [0x37#8] ∧ (s.cfg.models .primary 0x37#8 = true → exec .scf s =
      .next { s.past 1 .primary 0x37#8 false 4 with f := s.f &&& 0x9F#8 ||| 0x10#8 })) ∧
    (encode .ccf = [0x3F#8] ∧ (s.cfg.models .primary 0x3F#8 = true → exec .ccf s =
      .next { s.past 1 .primary 0x3F#8 false 4 with f := (s.f &&& 0x9F#8) ^^^ 0x10#8 }))

/-! ## Rotates, shifts and bits -/

/-- 45_rotate_bit R300 to R303: RLCA, RRCA, RLA and RRA, which clear Z whatever the result. -/
def Obligations.RotateAccumulatorResult : Prop :=
  ∀ s : State, ∀ p ∈ [(Instr.rlca, 0x07#8, RotOp.rlc), (.rrca, 0x0F#8, .rrc), (.rla, 0x17#8, .rl), (.rra, 0x1F#8, .rr)],
    let (i, op, k) := p
    let r := rotate k s.cf s.a
    encode i = [op] ∧ (s.cfg.models .primary op = true → exec i s =
      .next { s.past 1 .primary op false 4 with a := r.1, f := if r.2 = true then 0x10#8 else 0x00#8 })

/-- 45_rotate_bit R304 to R312: the eight rotates and shifts on a register (56 instructions) and on the byte at HL (8), with
Z from the result. -/
def Obligations.RotateOperandResult : Prop :=
  ∀ (k : RotOp) (s : State),
    (∀ r : Reg8,
      let op := slotByte 0 k.index (Operand8.reg r).index
      let (v, c) := rotate k s.cf (s.reg r)
      let f := (if v = 0#8 then 0x80#8 else 0x00#8) ||| (if c = true then 0x10#8 else 0x00#8)
      encode (rotForm k (.reg r)) = [0xCB#8, op] ∧ (s.cfg.models .extended op = true →
        exec (rotForm k (.reg r)) s = .next { (s.past 2 .extended op false 8).setReg r v with f := f })) ∧
    (let i := rotForm k .atHL
     let op := slotByte 0 k.index 6
     let (v, c) := rotate k s.cf (s.byteAt s.hl)
     let f := (if v = 0#8 then 0x80#8 else 0x00#8) ||| (if c = true then 0x10#8 else 0x00#8)
     let t := { (s.past 2 .extended op false 16).store s.hl v with f := f }
     encode i = [0xCB#8, op] ∧ (s.cfg.models .extended op = true →
       (s.canRead s.hl = true → s.canWrite s.hl = true →
         exec i s = .next t ∧ ∀ b : Addr, t.cell b = if b = s.hl then v else s.cell b) ∧
       (s.canRead s.hl = false → Stops (exec i s) (.unimplementedMemoryAccess .read s.hl s.pc)) ∧
       (s.canRead s.hl = true → s.canWrite s.hl = false →
         Stops (exec i s) (.unimplementedMemoryAccess (.write v) s.hl s.pc))))

/-- 45_rotate_bit R313: BIT b on a register (56 instructions) and on the byte at HL (8): flags only, C kept. -/
def Obligations.BitTestResult : Prop :=
  ∀ (b : Fin 8) (s : State),
    (∀ r : Reg8,
      let i := bitForm b.val (.reg r)
      let op := slotByte 1 b.val (Operand8.reg r).index
      encode i = [0xCB#8, op] ∧ (s.cfg.models .extended op = true → ∃ t, exec i s = .next t ∧
        t = { s.past 2 .extended op false 8 with f := t.f } ∧
        t.flagsAre (!(s.reg r).getLsbD b.val) false true s.cf ∧ t.f &&& 0x0F#8 = s.f &&& 0x0F#8)) ∧
    (let i := bitForm b.val .atHL
     let op := slotByte 1 b.val 6
     encode i = [0xCB#8, op] ∧ (s.cfg.models .extended op = true →
       (s.canRead s.hl = true → ∃ t, exec i s = .next t ∧
         t = { s.past 2 .extended op false 12 with f := t.f } ∧
         t.flagsAre (!(s.byteAt s.hl).getLsbD b.val) false true s.cf ∧ t.f &&& 0x0F#8 = s.f &&& 0x0F#8) ∧
       (s.canRead s.hl = false → Stops (exec i s) (.unimplementedMemoryAccess .read s.hl s.pc))))

/-- 45_rotate_bit R314, R315: RES b and SET b on a register (112 instructions) and on the byte at HL (16): one bit of the
operand changes, no flag; at HL the read comes before the write (R304). -/
def Obligations.ResSetResult : Prop :=
  (∀ (b : Fin 8) (r : Reg8) (s : State), ∀ p ∈ [(resForm b.val (.reg r), 2, false), (setForm b.val (.reg r), 3, true)],
    let (i, x, bit) := p
    let op := slotByte x b.val (Operand8.reg r).index
    encode i = [0xCB#8, op] ∧ (s.cfg.models .extended op = true → ∃ v : Byte,
      (∀ j < 8, v.getLsbD j = if j = b.val then bit else (s.reg r).getLsbD j) ∧
      exec i s = .next ((s.past 2 .extended op false 8).setReg r v))) ∧
  ∀ (b : Fin 8) (s : State), ∀ p ∈ [(resForm b.val .atHL, 2, false), (setForm b.val .atHL, 3, true)],
    let (i, x, bit) := p
    let op := slotByte x b.val 6
    encode i = [0xCB#8, op] ∧ (s.cfg.models .extended op = true → ∃ v : Byte,
      (∀ j < 8, v.getLsbD j = if j = b.val then bit else (s.byteAt s.hl).getLsbD j) ∧
      (s.canRead s.hl = true → s.canWrite s.hl = true →
        let t := (s.past 2 .extended op false 16).store s.hl v
        exec i s = .next t ∧ ∀ a : Addr, t.cell a = if a = s.hl then v else s.cell a) ∧
      (s.canRead s.hl = false → Stops (exec i s) (.unimplementedMemoryAccess .read s.hl s.pc)) ∧
      (s.canRead s.hl = true → s.canWrite s.hl = false →
        Stops (exec i s) (.unimplementedMemoryAccess (.write v) s.hl s.pc)))

/-! ## The stack -/

/-- 42_control_stack R223, R225, R220: PUSH (4 instructions): the word at SP, then SP less 2. -/
def Obligations.PushResult : Prop :=
  ∀ (r : Stk16) (s : State),
    let i := pushForm r
    let op := slotByte 3 (2 * r.index) 5
    let lo := loByte (s.stk r)
    let hi := hiByte (s.stk r)
    let t := { ((s.past 1 .primary op false 16).store s.sp lo).store (s.sp + 1#16) hi with sp := s.sp - 2#16 }
    encode i = [op] ∧ (s.cfg.models .primary op = true →
      (s.canWrite s.sp = true → s.canWrite (s.sp + 1#16) = true → exec i s = .next t ∧
        ∀ b : Addr, t.cell b = if b = s.sp + 1#16 then hi else if b = s.sp then lo else s.cell b) ∧
      (s.canWrite s.sp = false → Stops (exec i s) (.unimplementedMemoryAccess (.write lo) s.sp s.pc)) ∧
      (s.canWrite s.sp = true → s.canWrite (s.sp + 1#16) = false →
        Stops (exec i s) (.unimplementedMemoryAccess (.write hi) (s.sp + 1#16) s.pc)))

/-- 42_control_stack R227, R229, R221: POP (4 instructions): SP plus 2, then the word there; AF without the low nibble. -/
def Obligations.PopResult : Prop :=
  ∀ (r : Stk16) (s : State),
    let i := popForm r
    let op := slotByte 3 (2 * r.index) 1
    let a := s.sp + 2#16
    encode i = [op] ∧ (s.cfg.models .primary op = true →
      (s.canRead a = true → s.canRead (a + 1#16) = true → exec i s =
        .next ({ s.past 1 .primary op false 12 with sp := a }.setStk r (pair (s.byteAt (a + 1#16)) (s.byteAt a)))) ∧
      (s.canRead a = false → Stops (exec i s) (.unimplementedMemoryAccess .read a s.pc)) ∧
      (s.canRead a = true → s.canRead (a + 1#16) = false →
        Stops (exec i s) (.unimplementedMemoryAccess .read (a + 1#16) s.pc)))

/-- 42_control_stack R222 (a): a word pushed comes back with the next pop and SP is what it was; a RET comes back to the
instruction after the CALL. -/
def Obligations.PopAndReturnUndoPushAndCall : Prop :=
  ∀ s : State, s.canWriteWord s.sp = true → s.canReadWord s.sp = true →
    (∀ v : Addr, ∃ t u, s.push16 v = .ok t ∧ t.pop16 = .ok (v, u) ∧ u.sp = s.sp) ∧
    (s.cfg.models .primary 0xCD#8 = true → s.cfg.models .primary 0xC9#8 = true → ∀ target : Addr, ∃ t u,
      exec (.call_n16 target) s = .next t ∧ t.pc = target ∧ exec .ret t = .next u ∧ u.pc = s.pc + 3#16 ∧
      u.sp = s.sp ∧ u.f = s.f ∧ ∀ r : Reg8, u.reg r = s.reg r)

/-! ## Control transfer -/

/-- 42_control_stack R230, R231, R241: JR: PC moves past the displacement and then by it, signed, modulo 65536. -/
def Obligations.RelativeJumpResult : Prop :=
  ∀ (e8 : Byte) (s : State),
    let target := BitVec.ofInt 16 ((s.pc.toNat : Int) + 2 + e8.toInt)
    (encode (.jr_e8 e8) = [0x18#8, e8] ∧ (s.cfg.models .primary 0x18#8 = true → exec (.jr_e8 e8) s =
      .next { s.past 2 .primary 0x18#8 false 12 with pc := target })) ∧
    ∀ k : Cond,
      let op := slotByte 0 (4 + k.index) 0
      encode (jrForm k e8) = [op, e8] ∧ (s.cfg.models .primary op = true → exec (jrForm k e8) s =
        .next (if k.holds s = true then { s.past 2 .primary op true 12 with pc := target }
          else s.past 2 .primary op false 8))

/-- 42_control_stack R232, R233, R234: JP n16, JP cond,n16 and JP HL. -/
def Obligations.AbsoluteJumpResult : Prop :=
  ∀ (n16 : Addr) (s : State),
    (encode (.jp_n16 n16) = [0xC3#8, loByte n16, hiByte n16] ∧ (s.cfg.models .primary 0xC3#8 = true →
      exec (.jp_n16 n16) s = .next { s.past 3 .primary 0xC3#8 false 16 with pc := n16 })) ∧
    (encode .jp_HL = [0xE9#8] ∧ (s.cfg.models .primary 0xE9#8 = true →
      exec .jp_HL s = .next { s.past 1 .primary 0xE9#8 false 4 with pc := s.hl })) ∧
    ∀ k : Cond,
      let op := slotByte 3 k.index 2
      encode (jpForm k n16) = [op, loByte n16, hiByte n16] ∧ (s.cfg.models .primary op = true →
        exec (jpForm k n16) s = .next (if k.holds s = true then { s.past 3 .primary op true 16 with pc := n16 }
          else s.past 3 .primary op false 12))

/-- 42_control_stack R241: the four conditions read Z and C. -/
def Obligations.ConditionsReadZAndC : Prop :=
  ∀ s : State, (Cond.holds .nz s = true ↔ s.f &&& 0x80#8 = 0#8) ∧ (Cond.holds .z s = true ↔ s.f &&& 0x80#8 = 0x80#8) ∧
    (Cond.holds .nc s = true ↔ s.f &&& 0x10#8 = 0#8) ∧ (Cond.holds .c s = true ↔ s.f &&& 0x10#8 = 0x10#8)

/-- 42_control_stack R235, R236, R240: CALL n16, CALL cond,n16 taken, and the eight RST: the address of the next instruction
pushed, PC at the target. A CALL whose condition does not hold only passes. -/
def Obligations.CallResult : Prop :=
  ∀ (n16 : Addr) (s : State),
    (∀ p : Instr × List Byte × Addr × Bool × Nat,
      (p = (.call_n16 n16, [0xCD#8, loByte n16, hiByte n16], n16, false, 24) ∨
        (∃ k : Cond, k.holds s = true ∧
          p = (callForm k n16, [slotByte 3 k.index 4, loByte n16, hiByte n16], n16, true, 24)) ∨
        ∃ y : Fin 8, p = (rstForm y.val, [slotByte 3 y.val 7], BitVec.ofNat 16 (8 * y.val), false, 16)) →
      let (i, bytes, target, taken, cycles) := p
      let op := bytes.headD 0#8
      let back := s.pc + BitVec.ofNat 16 bytes.length
      let t := { ((s.past bytes.length .primary op taken cycles).store s.sp (loByte back)).store (s.sp + 1#16)
        (hiByte back) with sp := s.sp - 2#16, pc := target }
      encode i = bytes ∧ (s.cfg.models .primary op = true →
        (s.canWrite s.sp = true → s.canWrite (s.sp + 1#16) = true → exec i s = .next t ∧ ∀ b : Addr,
          t.cell b = if b = s.sp + 1#16 then hiByte back else if b = s.sp then loByte back else s.cell b) ∧
        (s.canWrite s.sp = false →
          Stops (exec i s) (.unimplementedMemoryAccess (.write (loByte back)) s.sp s.pc)) ∧
        (s.canWrite s.sp = true → s.canWrite (s.sp + 1#16) = false →
          Stops (exec i s) (.unimplementedMemoryAccess (.write (hiByte back)) (s.sp + 1#16) s.pc)))) ∧
    ∀ k : Cond, k.holds s = false →
      let op := slotByte 3 k.index 4
      encode (callForm k n16) = [op, loByte n16, hiByte n16] ∧ (s.cfg.models .primary op = true →
        exec (callForm k n16) s = .next (s.past 3 .primary op false 12))

/-- 42_control_stack R237, R238, R239: RET, RET cond taken, and RETI where the parameters model it: PC from the word at SP
plus 2. A RET whose condition does not hold only passes. -/
def Obligations.ReturnResult : Prop :=
  ∀ s : State,
    (∀ p : Instr × Byte × Bool × Nat,
      (p = (.ret, 0xC9#8, false, 16) ∨ p = (.reti, 0xD9#8, false, 16) ∨
        ∃ k : Cond, k.holds s = true ∧ p = (retForm k, slotByte 3 k.index 0, true, 20)) →
      let (i, op, taken, cycles) := p
      let a := s.sp + 2#16
      encode i = [op] ∧ (s.cfg.models .primary op = true →
        (s.canRead a = true → s.canRead (a + 1#16) = true → exec i s =
          .next { s.past 1 .primary op taken cycles with sp := a, pc := pair (s.byteAt (a + 1#16)) (s.byteAt a) }) ∧
        (s.canRead a = false → Stops (exec i s) (.unimplementedMemoryAccess .read a s.pc)) ∧
        (s.canRead a = true → s.canRead (a + 1#16) = false →
          Stops (exec i s) (.unimplementedMemoryAccess .read (a + 1#16) s.pc)))) ∧
    ∀ k : Cond, k.holds s = false →
      let op := slotByte 3 k.index 0
      encode (retForm k) = [op] ∧ (s.cfg.models .primary op = true →
        exec (retForm k) s = .next (s.past 1 .primary op false 8))

/-! ## The machine's own instructions -/

/-- 41_dispatch R206, R210, R211: NOP, and DI and EI where the parameters model them, change only PC and the cost. -/
def Obligations.NopDiEiChangeOnlyPcAndCost : Prop :=
  ∀ s : State, ∀ p ∈ [(Instr.nop, 0x00#8), (.di, 0xF3#8), (.ei, 0xFB#8)],
    encode p.1 = [p.2] ∧ (s.cfg.models .primary p.2 = true → exec p.1 s = .next (s.past 1 .primary p.2 false 4))

/-- 41_dispatch R203, 30_encoding R127: the slot 0xCB reads one more byte and is the instruction of the extended table that
the byte indexes, which completes wherever its slot is modeled and it names a register; the byte unreadable is fatal.
That the slot 0xCB is an instruction of its own is the model's form (log 10). -/
def Obligations.ExtendedDispatchResult : Prop :=
  ∀ s : State,
    let ext := s.byteAt (s.pc + 1#16)
    (s.canRead (s.pc + 1#16) = true →
      exec .cbPrefix s = exec (decodeExtended ext) s ∧
      (s.cfg.models .extended ext = true → ext.toNat % 8 ≠ 6 → ∃ t, exec .cbPrefix s = .next t ∧
        t.pc = s.pc + 2#16 ∧ t.mem = s.mem)) ∧
    (s.canRead (s.pc + 1#16) = false →
      Stops (exec .cbPrefix s) (.unimplementedMemoryAccess .read (s.pc + 1#16) s.pc))

/-! ## The hand-over from overlay to cartridge -/

/-- 20_memory R63, with 10_state R31, 41_dispatch R205 and 70_reset_and_hazards R384: the overlay hides the cartridge's bytes
below 0x0100, which M holds from reset on, and no others; a step that leaves PC elsewhere than at 0x0100 keeps the latch, so
the overlay hides them until a step leaves PC there; after that step every cartridge address reads M, and the latch stays
off. Every step keeps BOOT and M's bytes below 0x8000. The row counter's own cell is left out, wherever the parameters put
it. -/
def Obligations.OverlayHandsOverToTheCartridge : Prop :=
  (∀ (s : State) (a : Addr),
    (s.bootEnabled = true → a.toNat < 0x0100 → s.memRead a = .ok (Memory.read s.cfg.boot a.toNat)) ∧
    (s.bootEnabled = false → a.toNat < 0x0100 → s.memRead a = .ok (s.cell a)) ∧
    (0x0100 ≤ a.toNat → ∀ v, s.memRead a = .ok v → v = s.cell a) ∧
    (0x0100 ≤ a.toNat → a.toNat < 0x8000 → s.memRead a = .ok (s.cell a))) ∧
  (∀ (cfg : Config) (cart : List Byte) (ramInit : Memory) (a : Addr) (v : Byte), a.toNat < 0x0100 → a ≠ cfg.lyAddr →
    cart[a.toNat]? = some v →
    (State.resetWith cfg cart ramInit).bootEnabled = true ∧ (State.resetWith cfg cart ramInit).cell a = v) ∧
  (∀ (i : Instr) (s t : State), exec i s = .next t → t.bootEnabled = s.bootEnabled) ∧
  (∀ s t : State, step s = .next t → t.cfg.boot = s.cfg.boot ∧
    ∀ a : Addr, a.toNat < 0x8000 → a ≠ s.cfg.lyAddr → t.cell a = s.cell a) ∧
  (∀ s t : State, s.running → step s = .next t → t.pc ≠ 0x0100#16 → t.bootEnabled = s.bootEnabled) ∧
  (∀ s t : State, s.running → step s = .next t → t.pc = 0x0100#16 → t.bootEnabled = false ∧
    ∀ a : Addr, a.toNat < 0x8000 → a ≠ s.cfg.lyAddr → t.memRead a = .ok (s.cell a)) ∧
  ∀ s t : State, s.bootEnabled = false → step s = .next t → t.bootEnabled = false
end

