-- ==== Sys2Proof/Laws/Memory.lean ====
section
/-! SUPPORT. What a read gives after a write, and that a write keeps the canonical form. -/

namespace Sys2Proof.Machine

theorem Memory.read_insert_same (m : Memory) (a : Nat) (v : Byte) (h : ∀ c ∈ m, c.1 ≠ a) :
    Memory.read (Memory.insert m a v) a = v := by
  induction m with
  | nil => simp [Memory.insert, Memory.read]
  | cons c rest ih =>
    have hc : c.1 ≠ a := h c (by simp)
    have hr : ∀ d ∈ rest, d.1 ≠ a := fun d hd => h d (by simp [hd])
    by_cases hlt : c.1 < a
    · simp [Memory.insert, hlt, Memory.read, hc, ih hr]
    · simp [Memory.insert, hlt, Memory.read]

theorem Memory.read_insert_other (m : Memory) (a b : Nat) (v : Byte) (h : b ≠ a) :
    Memory.read (Memory.insert m a v) b = Memory.read m b := by
  induction m with
  | nil => simp [Memory.insert, Memory.read, Ne.symm h]
  | cons c rest ih =>
    by_cases hlt : c.1 < a
    · simp only [Memory.insert, hlt, if_true, Memory.read, ih]
    · simp [Memory.insert, hlt, Memory.read, Ne.symm h]

theorem Memory.read_absent (m : Memory) (a : Nat) (h : ∀ c ∈ m, c.1 ≠ a) : Memory.read m a = Memory.unlisted := by
  induction m with
  | nil => rfl
  | cons c rest ih =>
    have hc : c.1 ≠ a := h c (by simp)
    simp [Memory.read, hc, ih fun d hd => h d (by simp [hd])]

theorem Memory.read_filter_other (m : Memory) (a b : Nat) (h : b ≠ a) :
    Memory.read (m.filter fun c => c.1 != a) b = Memory.read m b := by
  induction m with
  | nil => rfl
  | cons c rest ih =>
    by_cases hc : c.1 = a
    · have hb : c.1 ≠ b := fun e => h (e.symm.trans hc)
      simp [hc, Memory.read, ih, Ne.symm h]
    · by_cases hb : c.1 = b <;> simp [hc, Memory.read, ih, hb, h]

theorem Memory.filter_absent (m : Memory) (a : Nat) : ∀ c ∈ m.filter (fun c => c.1 != a), c.1 ≠ a := by
  intro c hc
  simpa using (List.mem_filter.mp hc).2

/-- A read of the address written gives the byte written. -/
@[simp] theorem Memory.read_write_same (m : Memory) (a : Nat) (v : Byte) :
    Memory.read (Memory.write m a v) a = v := by
  unfold Memory.write
  split
  · rename_i h
    exact h ▸ Memory.read_absent _ _ (Memory.filter_absent m a)
  · exact Memory.read_insert_same _ _ _ (Memory.filter_absent m a)

/-- A read of any other address gives what it gave before. -/
theorem Memory.read_write_other (m : Memory) (a b : Nat) (v : Byte) (h : b ≠ a) :
    Memory.read (Memory.write m a v) b = Memory.read m b := by
  unfold Memory.write
  split
  · exact Memory.read_filter_other m a b h
  · rw [Memory.read_insert_other _ _ _ _ h, Memory.read_filter_other m a b h]

theorem Memory.mem_insert (m : Memory) (a : Nat) (v : Byte) (c : Host.Cell) :
    c ∈ Memory.insert m a v → c = (a, v) ∨ c ∈ m := by
  induction m with
  | nil => simp [Memory.insert]
  | cons d rest ih =>
    by_cases hlt : d.1 < a
    · simp only [Memory.insert, hlt, if_true, List.mem_cons]
      rintro (rfl | h)
      · exact .inr (.inl rfl)
      · exact (ih h).imp_right .inr
    · simp [Memory.insert, hlt]

theorem Memory.wf_filter (m : Memory) (p : Host.Cell → Bool) (h : Memory.wf m) : Memory.wf (m.filter p) :=
  ⟨h.1.filter p, fun c hc => h.2 c (List.mem_filter.mp hc).1⟩

theorem Memory.wf_insert (m : Memory) (a : Nat) (v : Byte) (hm : Memory.wf m) (ha : a < 65536)
    (hv : v ≠ Memory.unlisted) (hne : ∀ c ∈ m, c.1 ≠ a) : Memory.wf (Memory.insert m a v) := by
  constructor
  · induction m with
    | nil => simp [Memory.insert]
    | cons d rest ih =>
      have hrest : Memory.wf rest := ⟨(List.pairwise_cons.mp hm.1).2, fun c hc => hm.2 c (by simp [hc])⟩
      have hd : d.1 ≠ a := hne d (by simp)
      by_cases hlt : d.1 < a
      · simp only [Memory.insert, hlt, if_true]
        refine List.pairwise_cons.mpr ⟨fun c hc => ?_, ih hrest fun c hc => hne c (by simp [hc])⟩
        rcases Memory.mem_insert _ _ _ _ hc with rfl | hc
        · exact hlt
        · exact (List.pairwise_cons.mp hm.1).1 c hc
      · simp only [Memory.insert, hlt, if_false]
        have hgt : a < d.1 := by omega
        refine List.pairwise_cons.mpr ⟨fun c hc => ?_, hm.1⟩
        rcases List.mem_cons.mp hc with rfl | hc
        · exact hgt
        · exact hgt.trans ((List.pairwise_cons.mp hm.1).1 c hc)
  · intro c hc
    rcases Memory.mem_insert _ _ _ _ hc with rfl | hc
    · exact ⟨ha, hv⟩
    · exact hm.2 c hc

/-- A write keeps the canonical form. -/
theorem Memory.wf_write (m : Memory) (a : Nat) (v : Byte) (hm : Memory.wf m) (ha : a < 65536) :
    Memory.wf (Memory.write m a v) := by
  unfold Memory.write
  split
  · exact Memory.wf_filter m _ hm
  · rename_i hv
    exact Memory.wf_insert _ a v (Memory.wf_filter m _ hm) ha hv (Memory.filter_absent m a)

end Sys2Proof.Machine
end

