-- ==== Sys2Proof/Laws/State.lean ====
section
/-! SUPPORT. One lemma per update and per field it leaves alone, so that no proof unfolds a record update. -/

namespace Sys2Proof.Machine

/-- Reading a byte register after writing one (10_state R20). -/
theorem State.reg_setReg (s : State) (r q : Reg8) (v : Byte) : (s.setReg r v).reg q = if q = r then v else s.reg q := by
  cases r <;> cases q <;> rfl

@[simp] theorem State.setReg_f (s : State) (r : Reg8) (v : Byte) : (s.setReg r v).f = s.f := by cases r <;> rfl
@[simp] theorem State.setReg_sp (s : State) (r : Reg8) (v : Byte) : (s.setReg r v).sp = s.sp := by cases r <;> rfl
@[simp] theorem State.setReg_pc (s : State) (r : Reg8) (v : Byte) : (s.setReg r v).pc = s.pc := by cases r <;> rfl
@[simp] theorem State.setReg_mem (s : State) (r : Reg8) (v : Byte) : (s.setReg r v).mem = s.mem := by cases r <;> rfl
@[simp] theorem State.setReg_bootEnabled (s : State) (r : Reg8) (v : Byte) : (s.setReg r v).bootEnabled = s.bootEnabled := by cases r <;> rfl
@[simp] theorem State.setReg_phase (s : State) (r : Reg8) (v : Byte) : (s.setReg r v).phase = s.phase := by cases r <;> rfl
@[simp] theorem State.setReg_scanCycles (s : State) (r : Reg8) (v : Byte) : (s.setReg r v).scanCycles = s.scanCycles := by cases r <;> rfl
@[simp] theorem State.setReg_frameCycles (s : State) (r : Reg8) (v : Byte) : (s.setReg r v).frameCycles = s.frameCycles := by cases r <;> rfl
@[simp] theorem State.setReg_instrCycles (s : State) (r : Reg8) (v : Byte) : (s.setReg r v).instrCycles = s.instrCycles := by cases r <;> rfl
@[simp] theorem State.setReg_fault (s : State) (r : Reg8) (v : Byte) : (s.setReg r v).fault = s.fault := by cases r <;> rfl
@[simp] theorem State.setReg_output (s : State) (r : Reg8) (v : Byte) : (s.setReg r v).output = s.output := by cases r <;> rfl
@[simp] theorem State.setReg_hostRunning (s : State) (r : Reg8) (v : Byte) : (s.setReg r v).hostRunning = s.hostRunning := by cases r <;> rfl
@[simp] theorem State.setReg_cfg (s : State) (r : Reg8) (v : Byte) : (s.setReg r v).cfg = s.cfg := by cases r <;> rfl

@[simp] theorem State.setReg16_f (s : State) (r : Reg16) (v : Addr) : (s.setReg16 r v).f = s.f := by cases r <;> rfl
@[simp] theorem State.setReg16_pc (s : State) (r : Reg16) (v : Addr) : (s.setReg16 r v).pc = s.pc := by cases r <;> rfl
@[simp] theorem State.setReg16_mem (s : State) (r : Reg16) (v : Addr) : (s.setReg16 r v).mem = s.mem := by cases r <;> rfl
@[simp] theorem State.setReg16_bootEnabled (s : State) (r : Reg16) (v : Addr) : (s.setReg16 r v).bootEnabled = s.bootEnabled := by cases r <;> rfl
@[simp] theorem State.setReg16_phase (s : State) (r : Reg16) (v : Addr) : (s.setReg16 r v).phase = s.phase := by cases r <;> rfl
@[simp] theorem State.setReg16_scanCycles (s : State) (r : Reg16) (v : Addr) : (s.setReg16 r v).scanCycles = s.scanCycles := by cases r <;> rfl
@[simp] theorem State.setReg16_frameCycles (s : State) (r : Reg16) (v : Addr) : (s.setReg16 r v).frameCycles = s.frameCycles := by cases r <;> rfl
@[simp] theorem State.setReg16_instrCycles (s : State) (r : Reg16) (v : Addr) : (s.setReg16 r v).instrCycles = s.instrCycles := by cases r <;> rfl
@[simp] theorem State.setReg16_fault (s : State) (r : Reg16) (v : Addr) : (s.setReg16 r v).fault = s.fault := by cases r <;> rfl
@[simp] theorem State.setReg16_output (s : State) (r : Reg16) (v : Addr) : (s.setReg16 r v).output = s.output := by cases r <;> rfl
@[simp] theorem State.setReg16_hostRunning (s : State) (r : Reg16) (v : Addr) : (s.setReg16 r v).hostRunning = s.hostRunning := by cases r <;> rfl
@[simp] theorem State.setReg16_cfg (s : State) (r : Reg16) (v : Addr) : (s.setReg16 r v).cfg = s.cfg := by cases r <;> rfl

@[simp] theorem State.setStk_sp (s : State) (r : Stk16) (v : Addr) : (s.setStk r v).sp = s.sp := by cases r <;> rfl
@[simp] theorem State.setStk_pc (s : State) (r : Stk16) (v : Addr) : (s.setStk r v).pc = s.pc := by cases r <;> rfl
@[simp] theorem State.setStk_mem (s : State) (r : Stk16) (v : Addr) : (s.setStk r v).mem = s.mem := by cases r <;> rfl
@[simp] theorem State.setStk_bootEnabled (s : State) (r : Stk16) (v : Addr) : (s.setStk r v).bootEnabled = s.bootEnabled := by cases r <;> rfl
@[simp] theorem State.setStk_phase (s : State) (r : Stk16) (v : Addr) : (s.setStk r v).phase = s.phase := by cases r <;> rfl
@[simp] theorem State.setStk_scanCycles (s : State) (r : Stk16) (v : Addr) : (s.setStk r v).scanCycles = s.scanCycles := by cases r <;> rfl
@[simp] theorem State.setStk_frameCycles (s : State) (r : Stk16) (v : Addr) : (s.setStk r v).frameCycles = s.frameCycles := by cases r <;> rfl
@[simp] theorem State.setStk_instrCycles (s : State) (r : Stk16) (v : Addr) : (s.setStk r v).instrCycles = s.instrCycles := by cases r <;> rfl
@[simp] theorem State.setStk_fault (s : State) (r : Stk16) (v : Addr) : (s.setStk r v).fault = s.fault := by cases r <;> rfl
@[simp] theorem State.setStk_output (s : State) (r : Stk16) (v : Addr) : (s.setStk r v).output = s.output := by cases r <;> rfl
@[simp] theorem State.setStk_hostRunning (s : State) (r : Stk16) (v : Addr) : (s.setStk r v).hostRunning = s.hostRunning := by cases r <;> rfl
@[simp] theorem State.setStk_cfg (s : State) (r : Stk16) (v : Addr) : (s.setStk r v).cfg = s.cfg := by cases r <;> rfl

@[simp] theorem State.setFlags_a (s : State) (z n h c : Bool) : (s.setFlags z n h c).a = s.a := rfl
@[simp] theorem State.setFlags_b (s : State) (z n h c : Bool) : (s.setFlags z n h c).b = s.b := rfl
@[simp] theorem State.setFlags_c (s : State) (z n h c : Bool) : (s.setFlags z n h c).c = s.c := rfl
@[simp] theorem State.setFlags_d (s : State) (z n h c : Bool) : (s.setFlags z n h c).d = s.d := rfl
@[simp] theorem State.setFlags_e (s : State) (z n h c : Bool) : (s.setFlags z n h c).e = s.e := rfl
@[simp] theorem State.setFlags_h (s : State) (z n h c : Bool) : (s.setFlags z n h c).h = s.h := rfl
@[simp] theorem State.setFlags_l (s : State) (z n h c : Bool) : (s.setFlags z n h c).l = s.l := rfl
@[simp] theorem State.setFlags_sp (s : State) (z n h c : Bool) : (s.setFlags z n h c).sp = s.sp := rfl
@[simp] theorem State.setFlags_pc (s : State) (z n h c : Bool) : (s.setFlags z n h c).pc = s.pc := rfl
@[simp] theorem State.setFlags_mem (s : State) (z n h c : Bool) : (s.setFlags z n h c).mem = s.mem := rfl
@[simp] theorem State.setFlags_bootEnabled (s : State) (z n h c : Bool) : (s.setFlags z n h c).bootEnabled = s.bootEnabled := rfl
@[simp] theorem State.setFlags_phase (s : State) (z n h c : Bool) : (s.setFlags z n h c).phase = s.phase := rfl
@[simp] theorem State.setFlags_scanCycles (s : State) (z n h c : Bool) : (s.setFlags z n h c).scanCycles = s.scanCycles := rfl
@[simp] theorem State.setFlags_frameCycles (s : State) (z n h c : Bool) : (s.setFlags z n h c).frameCycles = s.frameCycles := rfl
@[simp] theorem State.setFlags_instrCycles (s : State) (z n h c : Bool) : (s.setFlags z n h c).instrCycles = s.instrCycles := rfl
@[simp] theorem State.setFlags_fault (s : State) (z n h c : Bool) : (s.setFlags z n h c).fault = s.fault := rfl
@[simp] theorem State.setFlags_output (s : State) (z n h c : Bool) : (s.setFlags z n h c).output = s.output := rfl
@[simp] theorem State.setFlags_hostRunning (s : State) (z n h c : Bool) : (s.setFlags z n h c).hostRunning = s.hostRunning := rfl
@[simp] theorem State.setFlags_cfg (s : State) (z n h c : Bool) : (s.setFlags z n h c).cfg = s.cfg := rfl

@[simp] theorem State.setZ_a (s : State) (b : Bool) : (s.setZ b).a = s.a := rfl
@[simp] theorem State.setZ_b (s : State) (b : Bool) : (s.setZ b).b = s.b := rfl
@[simp] theorem State.setZ_c (s : State) (b : Bool) : (s.setZ b).c = s.c := rfl
@[simp] theorem State.setZ_d (s : State) (b : Bool) : (s.setZ b).d = s.d := rfl
@[simp] theorem State.setZ_e (s : State) (b : Bool) : (s.setZ b).e = s.e := rfl
@[simp] theorem State.setZ_h (s : State) (b : Bool) : (s.setZ b).h = s.h := rfl
@[simp] theorem State.setZ_l (s : State) (b : Bool) : (s.setZ b).l = s.l := rfl
@[simp] theorem State.setZ_sp (s : State) (b : Bool) : (s.setZ b).sp = s.sp := rfl
@[simp] theorem State.setZ_pc (s : State) (b : Bool) : (s.setZ b).pc = s.pc := rfl
@[simp] theorem State.setZ_mem (s : State) (b : Bool) : (s.setZ b).mem = s.mem := rfl
@[simp] theorem State.setZ_bootEnabled (s : State) (b : Bool) : (s.setZ b).bootEnabled = s.bootEnabled := rfl
@[simp] theorem State.setZ_phase (s : State) (b : Bool) : (s.setZ b).phase = s.phase := rfl
@[simp] theorem State.setZ_scanCycles (s : State) (b : Bool) : (s.setZ b).scanCycles = s.scanCycles := rfl
@[simp] theorem State.setZ_frameCycles (s : State) (b : Bool) : (s.setZ b).frameCycles = s.frameCycles := rfl
@[simp] theorem State.setZ_instrCycles (s : State) (b : Bool) : (s.setZ b).instrCycles = s.instrCycles := rfl
@[simp] theorem State.setZ_fault (s : State) (b : Bool) : (s.setZ b).fault = s.fault := rfl
@[simp] theorem State.setZ_output (s : State) (b : Bool) : (s.setZ b).output = s.output := rfl
@[simp] theorem State.setZ_hostRunning (s : State) (b : Bool) : (s.setZ b).hostRunning = s.hostRunning := rfl
@[simp] theorem State.setZ_cfg (s : State) (b : Bool) : (s.setZ b).cfg = s.cfg := rfl

@[simp] theorem State.setN_a (s : State) (b : Bool) : (s.setN b).a = s.a := rfl
@[simp] theorem State.setN_b (s : State) (b : Bool) : (s.setN b).b = s.b := rfl
@[simp] theorem State.setN_c (s : State) (b : Bool) : (s.setN b).c = s.c := rfl
@[simp] theorem State.setN_d (s : State) (b : Bool) : (s.setN b).d = s.d := rfl
@[simp] theorem State.setN_e (s : State) (b : Bool) : (s.setN b).e = s.e := rfl
@[simp] theorem State.setN_h (s : State) (b : Bool) : (s.setN b).h = s.h := rfl
@[simp] theorem State.setN_l (s : State) (b : Bool) : (s.setN b).l = s.l := rfl
@[simp] theorem State.setN_sp (s : State) (b : Bool) : (s.setN b).sp = s.sp := rfl
@[simp] theorem State.setN_pc (s : State) (b : Bool) : (s.setN b).pc = s.pc := rfl
@[simp] theorem State.setN_mem (s : State) (b : Bool) : (s.setN b).mem = s.mem := rfl
@[simp] theorem State.setN_bootEnabled (s : State) (b : Bool) : (s.setN b).bootEnabled = s.bootEnabled := rfl
@[simp] theorem State.setN_phase (s : State) (b : Bool) : (s.setN b).phase = s.phase := rfl
@[simp] theorem State.setN_scanCycles (s : State) (b : Bool) : (s.setN b).scanCycles = s.scanCycles := rfl
@[simp] theorem State.setN_frameCycles (s : State) (b : Bool) : (s.setN b).frameCycles = s.frameCycles := rfl
@[simp] theorem State.setN_instrCycles (s : State) (b : Bool) : (s.setN b).instrCycles = s.instrCycles := rfl
@[simp] theorem State.setN_fault (s : State) (b : Bool) : (s.setN b).fault = s.fault := rfl
@[simp] theorem State.setN_output (s : State) (b : Bool) : (s.setN b).output = s.output := rfl
@[simp] theorem State.setN_hostRunning (s : State) (b : Bool) : (s.setN b).hostRunning = s.hostRunning := rfl
@[simp] theorem State.setN_cfg (s : State) (b : Bool) : (s.setN b).cfg = s.cfg := rfl

@[simp] theorem State.setH_a (s : State) (b : Bool) : (s.setH b).a = s.a := rfl
@[simp] theorem State.setH_b (s : State) (b : Bool) : (s.setH b).b = s.b := rfl
@[simp] theorem State.setH_c (s : State) (b : Bool) : (s.setH b).c = s.c := rfl
@[simp] theorem State.setH_d (s : State) (b : Bool) : (s.setH b).d = s.d := rfl
@[simp] theorem State.setH_e (s : State) (b : Bool) : (s.setH b).e = s.e := rfl
@[simp] theorem State.setH_h (s : State) (b : Bool) : (s.setH b).h = s.h := rfl
@[simp] theorem State.setH_l (s : State) (b : Bool) : (s.setH b).l = s.l := rfl
@[simp] theorem State.setH_sp (s : State) (b : Bool) : (s.setH b).sp = s.sp := rfl
@[simp] theorem State.setH_pc (s : State) (b : Bool) : (s.setH b).pc = s.pc := rfl
@[simp] theorem State.setH_mem (s : State) (b : Bool) : (s.setH b).mem = s.mem := rfl
@[simp] theorem State.setH_bootEnabled (s : State) (b : Bool) : (s.setH b).bootEnabled = s.bootEnabled := rfl
@[simp] theorem State.setH_phase (s : State) (b : Bool) : (s.setH b).phase = s.phase := rfl
@[simp] theorem State.setH_scanCycles (s : State) (b : Bool) : (s.setH b).scanCycles = s.scanCycles := rfl
@[simp] theorem State.setH_frameCycles (s : State) (b : Bool) : (s.setH b).frameCycles = s.frameCycles := rfl
@[simp] theorem State.setH_instrCycles (s : State) (b : Bool) : (s.setH b).instrCycles = s.instrCycles := rfl
@[simp] theorem State.setH_fault (s : State) (b : Bool) : (s.setH b).fault = s.fault := rfl
@[simp] theorem State.setH_output (s : State) (b : Bool) : (s.setH b).output = s.output := rfl
@[simp] theorem State.setH_hostRunning (s : State) (b : Bool) : (s.setH b).hostRunning = s.hostRunning := rfl
@[simp] theorem State.setH_cfg (s : State) (b : Bool) : (s.setH b).cfg = s.cfg := rfl

@[simp] theorem State.setC_a (s : State) (b : Bool) : (s.setC b).a = s.a := rfl
@[simp] theorem State.setC_b (s : State) (b : Bool) : (s.setC b).b = s.b := rfl
@[simp] theorem State.setC_c (s : State) (b : Bool) : (s.setC b).c = s.c := rfl
@[simp] theorem State.setC_d (s : State) (b : Bool) : (s.setC b).d = s.d := rfl
@[simp] theorem State.setC_e (s : State) (b : Bool) : (s.setC b).e = s.e := rfl
@[simp] theorem State.setC_h (s : State) (b : Bool) : (s.setC b).h = s.h := rfl
@[simp] theorem State.setC_l (s : State) (b : Bool) : (s.setC b).l = s.l := rfl
@[simp] theorem State.setC_sp (s : State) (b : Bool) : (s.setC b).sp = s.sp := rfl
@[simp] theorem State.setC_pc (s : State) (b : Bool) : (s.setC b).pc = s.pc := rfl
@[simp] theorem State.setC_mem (s : State) (b : Bool) : (s.setC b).mem = s.mem := rfl
@[simp] theorem State.setC_bootEnabled (s : State) (b : Bool) : (s.setC b).bootEnabled = s.bootEnabled := rfl
@[simp] theorem State.setC_phase (s : State) (b : Bool) : (s.setC b).phase = s.phase := rfl
@[simp] theorem State.setC_scanCycles (s : State) (b : Bool) : (s.setC b).scanCycles = s.scanCycles := rfl
@[simp] theorem State.setC_frameCycles (s : State) (b : Bool) : (s.setC b).frameCycles = s.frameCycles := rfl
@[simp] theorem State.setC_instrCycles (s : State) (b : Bool) : (s.setC b).instrCycles = s.instrCycles := rfl
@[simp] theorem State.setC_fault (s : State) (b : Bool) : (s.setC b).fault = s.fault := rfl
@[simp] theorem State.setC_output (s : State) (b : Bool) : (s.setC b).output = s.output := rfl
@[simp] theorem State.setC_hostRunning (s : State) (b : Bool) : (s.setC b).hostRunning = s.hostRunning := rfl
@[simp] theorem State.setC_cfg (s : State) (b : Bool) : (s.setC b).cfg = s.cfg := rfl

@[simp] theorem State.advance_a (s : State) (n : Nat) : (s.advance n).a = s.a := rfl
@[simp] theorem State.advance_b (s : State) (n : Nat) : (s.advance n).b = s.b := rfl
@[simp] theorem State.advance_c (s : State) (n : Nat) : (s.advance n).c = s.c := rfl
@[simp] theorem State.advance_d (s : State) (n : Nat) : (s.advance n).d = s.d := rfl
@[simp] theorem State.advance_e (s : State) (n : Nat) : (s.advance n).e = s.e := rfl
@[simp] theorem State.advance_h (s : State) (n : Nat) : (s.advance n).h = s.h := rfl
@[simp] theorem State.advance_l (s : State) (n : Nat) : (s.advance n).l = s.l := rfl
@[simp] theorem State.advance_f (s : State) (n : Nat) : (s.advance n).f = s.f := rfl
@[simp] theorem State.advance_sp (s : State) (n : Nat) : (s.advance n).sp = s.sp := rfl
@[simp] theorem State.advance_mem (s : State) (n : Nat) : (s.advance n).mem = s.mem := rfl
@[simp] theorem State.advance_bootEnabled (s : State) (n : Nat) : (s.advance n).bootEnabled = s.bootEnabled := rfl
@[simp] theorem State.advance_phase (s : State) (n : Nat) : (s.advance n).phase = s.phase := rfl
@[simp] theorem State.advance_scanCycles (s : State) (n : Nat) : (s.advance n).scanCycles = s.scanCycles := rfl
@[simp] theorem State.advance_frameCycles (s : State) (n : Nat) : (s.advance n).frameCycles = s.frameCycles := rfl
@[simp] theorem State.advance_instrCycles (s : State) (n : Nat) : (s.advance n).instrCycles = s.instrCycles := rfl
@[simp] theorem State.advance_fault (s : State) (n : Nat) : (s.advance n).fault = s.fault := rfl
@[simp] theorem State.advance_output (s : State) (n : Nat) : (s.advance n).output = s.output := rfl
@[simp] theorem State.advance_hostRunning (s : State) (n : Nat) : (s.advance n).hostRunning = s.hostRunning := rfl
@[simp] theorem State.advance_cfg (s : State) (n : Nat) : (s.advance n).cfg = s.cfg := rfl

@[simp] theorem State.jump_a (s : State) (v : Addr) : (s.jump v).a = s.a := rfl
@[simp] theorem State.jump_b (s : State) (v : Addr) : (s.jump v).b = s.b := rfl
@[simp] theorem State.jump_c (s : State) (v : Addr) : (s.jump v).c = s.c := rfl
@[simp] theorem State.jump_d (s : State) (v : Addr) : (s.jump v).d = s.d := rfl
@[simp] theorem State.jump_e (s : State) (v : Addr) : (s.jump v).e = s.e := rfl
@[simp] theorem State.jump_h (s : State) (v : Addr) : (s.jump v).h = s.h := rfl
@[simp] theorem State.jump_l (s : State) (v : Addr) : (s.jump v).l = s.l := rfl
@[simp] theorem State.jump_f (s : State) (v : Addr) : (s.jump v).f = s.f := rfl
@[simp] theorem State.jump_sp (s : State) (v : Addr) : (s.jump v).sp = s.sp := rfl
@[simp] theorem State.jump_mem (s : State) (v : Addr) : (s.jump v).mem = s.mem := rfl
@[simp] theorem State.jump_bootEnabled (s : State) (v : Addr) : (s.jump v).bootEnabled = s.bootEnabled := rfl
@[simp] theorem State.jump_phase (s : State) (v : Addr) : (s.jump v).phase = s.phase := rfl
@[simp] theorem State.jump_scanCycles (s : State) (v : Addr) : (s.jump v).scanCycles = s.scanCycles := rfl
@[simp] theorem State.jump_frameCycles (s : State) (v : Addr) : (s.jump v).frameCycles = s.frameCycles := rfl
@[simp] theorem State.jump_instrCycles (s : State) (v : Addr) : (s.jump v).instrCycles = s.instrCycles := rfl
@[simp] theorem State.jump_fault (s : State) (v : Addr) : (s.jump v).fault = s.fault := rfl
@[simp] theorem State.jump_output (s : State) (v : Addr) : (s.jump v).output = s.output := rfl
@[simp] theorem State.jump_hostRunning (s : State) (v : Addr) : (s.jump v).hostRunning = s.hostRunning := rfl
@[simp] theorem State.jump_cfg (s : State) (v : Addr) : (s.jump v).cfg = s.cfg := rfl

@[simp] theorem State.cyc_a (s : State) (t : Table) (o : Byte) (k : Bool) (n : Nat) : (s.cyc t o k n).a = s.a := rfl
@[simp] theorem State.cyc_b (s : State) (t : Table) (o : Byte) (k : Bool) (n : Nat) : (s.cyc t o k n).b = s.b := rfl
@[simp] theorem State.cyc_c (s : State) (t : Table) (o : Byte) (k : Bool) (n : Nat) : (s.cyc t o k n).c = s.c := rfl
@[simp] theorem State.cyc_d (s : State) (t : Table) (o : Byte) (k : Bool) (n : Nat) : (s.cyc t o k n).d = s.d := rfl
@[simp] theorem State.cyc_e (s : State) (t : Table) (o : Byte) (k : Bool) (n : Nat) : (s.cyc t o k n).e = s.e := rfl
@[simp] theorem State.cyc_h (s : State) (t : Table) (o : Byte) (k : Bool) (n : Nat) : (s.cyc t o k n).h = s.h := rfl
@[simp] theorem State.cyc_l (s : State) (t : Table) (o : Byte) (k : Bool) (n : Nat) : (s.cyc t o k n).l = s.l := rfl
@[simp] theorem State.cyc_f (s : State) (t : Table) (o : Byte) (k : Bool) (n : Nat) : (s.cyc t o k n).f = s.f := rfl
@[simp] theorem State.cyc_sp (s : State) (t : Table) (o : Byte) (k : Bool) (n : Nat) : (s.cyc t o k n).sp = s.sp := rfl
@[simp] theorem State.cyc_pc (s : State) (t : Table) (o : Byte) (k : Bool) (n : Nat) : (s.cyc t o k n).pc = s.pc := rfl
@[simp] theorem State.cyc_mem (s : State) (t : Table) (o : Byte) (k : Bool) (n : Nat) : (s.cyc t o k n).mem = s.mem := rfl
@[simp] theorem State.cyc_bootEnabled (s : State) (t : Table) (o : Byte) (k : Bool) (n : Nat) : (s.cyc t o k n).bootEnabled = s.bootEnabled := rfl
@[simp] theorem State.cyc_phase (s : State) (t : Table) (o : Byte) (k : Bool) (n : Nat) : (s.cyc t o k n).phase = s.phase := rfl
@[simp] theorem State.cyc_scanCycles (s : State) (t : Table) (o : Byte) (k : Bool) (n : Nat) : (s.cyc t o k n).scanCycles = s.scanCycles := rfl
@[simp] theorem State.cyc_frameCycles (s : State) (t : Table) (o : Byte) (k : Bool) (n : Nat) : (s.cyc t o k n).frameCycles = s.frameCycles := rfl
@[simp] theorem State.cyc_fault (s : State) (t : Table) (o : Byte) (k : Bool) (n : Nat) : (s.cyc t o k n).fault = s.fault := rfl
@[simp] theorem State.cyc_output (s : State) (t : Table) (o : Byte) (k : Bool) (n : Nat) : (s.cyc t o k n).output = s.output := rfl
@[simp] theorem State.cyc_hostRunning (s : State) (t : Table) (o : Byte) (k : Bool) (n : Nat) : (s.cyc t o k n).hostRunning = s.hostRunning := rfl
@[simp] theorem State.cyc_cfg (s : State) (t : Table) (o : Byte) (k : Bool) (n : Nat) : (s.cyc t o k n).cfg = s.cfg := rfl

@[simp] theorem State.store_a (s : State) (x : Addr) (v : Byte) : (s.store x v).a = s.a := by unfold State.store; split <;> rfl
@[simp] theorem State.store_b (s : State) (x : Addr) (v : Byte) : (s.store x v).b = s.b := by unfold State.store; split <;> rfl
@[simp] theorem State.store_c (s : State) (x : Addr) (v : Byte) : (s.store x v).c = s.c := by unfold State.store; split <;> rfl
@[simp] theorem State.store_d (s : State) (x : Addr) (v : Byte) : (s.store x v).d = s.d := by unfold State.store; split <;> rfl
@[simp] theorem State.store_e (s : State) (x : Addr) (v : Byte) : (s.store x v).e = s.e := by unfold State.store; split <;> rfl
@[simp] theorem State.store_h (s : State) (x : Addr) (v : Byte) : (s.store x v).h = s.h := by unfold State.store; split <;> rfl
@[simp] theorem State.store_l (s : State) (x : Addr) (v : Byte) : (s.store x v).l = s.l := by unfold State.store; split <;> rfl
@[simp] theorem State.store_f (s : State) (x : Addr) (v : Byte) : (s.store x v).f = s.f := by unfold State.store; split <;> rfl
@[simp] theorem State.store_sp (s : State) (x : Addr) (v : Byte) : (s.store x v).sp = s.sp := by unfold State.store; split <;> rfl
@[simp] theorem State.store_pc (s : State) (x : Addr) (v : Byte) : (s.store x v).pc = s.pc := by unfold State.store; split <;> rfl
@[simp] theorem State.store_bootEnabled (s : State) (x : Addr) (v : Byte) : (s.store x v).bootEnabled = s.bootEnabled := by unfold State.store; split <;> rfl
@[simp] theorem State.store_phase (s : State) (x : Addr) (v : Byte) : (s.store x v).phase = s.phase := by unfold State.store; split <;> rfl
@[simp] theorem State.store_scanCycles (s : State) (x : Addr) (v : Byte) : (s.store x v).scanCycles = s.scanCycles := by unfold State.store; split <;> rfl
@[simp] theorem State.store_frameCycles (s : State) (x : Addr) (v : Byte) : (s.store x v).frameCycles = s.frameCycles := by unfold State.store; split <;> rfl
@[simp] theorem State.store_instrCycles (s : State) (x : Addr) (v : Byte) : (s.store x v).instrCycles = s.instrCycles := by unfold State.store; split <;> rfl
@[simp] theorem State.store_fault (s : State) (x : Addr) (v : Byte) : (s.store x v).fault = s.fault := by unfold State.store; split <;> rfl
@[simp] theorem State.store_hostRunning (s : State) (x : Addr) (v : Byte) : (s.store x v).hostRunning = s.hostRunning := by unfold State.store; split <;> rfl
@[simp] theorem State.store_cfg (s : State) (x : Addr) (v : Byte) : (s.store x v).cfg = s.cfg := by unfold State.store; split <;> rfl

@[simp] theorem State.alu_b (s : State) (k : AluOp) (v : Byte) : (alu k v s).b = s.b := by cases k <;> rfl
@[simp] theorem State.alu_c (s : State) (k : AluOp) (v : Byte) : (alu k v s).c = s.c := by cases k <;> rfl
@[simp] theorem State.alu_d (s : State) (k : AluOp) (v : Byte) : (alu k v s).d = s.d := by cases k <;> rfl
@[simp] theorem State.alu_e (s : State) (k : AluOp) (v : Byte) : (alu k v s).e = s.e := by cases k <;> rfl
@[simp] theorem State.alu_h (s : State) (k : AluOp) (v : Byte) : (alu k v s).h = s.h := by cases k <;> rfl
@[simp] theorem State.alu_l (s : State) (k : AluOp) (v : Byte) : (alu k v s).l = s.l := by cases k <;> rfl
@[simp] theorem State.alu_sp (s : State) (k : AluOp) (v : Byte) : (alu k v s).sp = s.sp := by cases k <;> rfl
@[simp] theorem State.alu_pc (s : State) (k : AluOp) (v : Byte) : (alu k v s).pc = s.pc := by cases k <;> rfl
@[simp] theorem State.alu_mem (s : State) (k : AluOp) (v : Byte) : (alu k v s).mem = s.mem := by cases k <;> rfl
@[simp] theorem State.alu_bootEnabled (s : State) (k : AluOp) (v : Byte) : (alu k v s).bootEnabled = s.bootEnabled := by cases k <;> rfl
@[simp] theorem State.alu_phase (s : State) (k : AluOp) (v : Byte) : (alu k v s).phase = s.phase := by cases k <;> rfl
@[simp] theorem State.alu_scanCycles (s : State) (k : AluOp) (v : Byte) : (alu k v s).scanCycles = s.scanCycles := by cases k <;> rfl
@[simp] theorem State.alu_frameCycles (s : State) (k : AluOp) (v : Byte) : (alu k v s).frameCycles = s.frameCycles := by cases k <;> rfl
@[simp] theorem State.alu_instrCycles (s : State) (k : AluOp) (v : Byte) : (alu k v s).instrCycles = s.instrCycles := by cases k <;> rfl
@[simp] theorem State.alu_fault (s : State) (k : AluOp) (v : Byte) : (alu k v s).fault = s.fault := by cases k <;> rfl
@[simp] theorem State.alu_output (s : State) (k : AluOp) (v : Byte) : (alu k v s).output = s.output := by cases k <;> rfl
@[simp] theorem State.alu_hostRunning (s : State) (k : AluOp) (v : Byte) : (alu k v s).hostRunning = s.hostRunning := by cases k <;> rfl
@[simp] theorem State.alu_cfg (s : State) (k : AluOp) (v : Byte) : (alu k v s).cfg = s.cfg := by cases k <;> rfl

@[simp] theorem State.inc8Flags_a (s : State) (v : Byte) : (inc8Flags v s).a = s.a := rfl
@[simp] theorem State.inc8Flags_b (s : State) (v : Byte) : (inc8Flags v s).b = s.b := rfl
@[simp] theorem State.inc8Flags_c (s : State) (v : Byte) : (inc8Flags v s).c = s.c := rfl
@[simp] theorem State.inc8Flags_d (s : State) (v : Byte) : (inc8Flags v s).d = s.d := rfl
@[simp] theorem State.inc8Flags_e (s : State) (v : Byte) : (inc8Flags v s).e = s.e := rfl
@[simp] theorem State.inc8Flags_h (s : State) (v : Byte) : (inc8Flags v s).h = s.h := rfl
@[simp] theorem State.inc8Flags_l (s : State) (v : Byte) : (inc8Flags v s).l = s.l := rfl
@[simp] theorem State.inc8Flags_sp (s : State) (v : Byte) : (inc8Flags v s).sp = s.sp := rfl
@[simp] theorem State.inc8Flags_pc (s : State) (v : Byte) : (inc8Flags v s).pc = s.pc := rfl
@[simp] theorem State.inc8Flags_mem (s : State) (v : Byte) : (inc8Flags v s).mem = s.mem := rfl
@[simp] theorem State.inc8Flags_bootEnabled (s : State) (v : Byte) : (inc8Flags v s).bootEnabled = s.bootEnabled := rfl
@[simp] theorem State.inc8Flags_phase (s : State) (v : Byte) : (inc8Flags v s).phase = s.phase := rfl
@[simp] theorem State.inc8Flags_scanCycles (s : State) (v : Byte) : (inc8Flags v s).scanCycles = s.scanCycles := rfl
@[simp] theorem State.inc8Flags_frameCycles (s : State) (v : Byte) : (inc8Flags v s).frameCycles = s.frameCycles := rfl
@[simp] theorem State.inc8Flags_instrCycles (s : State) (v : Byte) : (inc8Flags v s).instrCycles = s.instrCycles := rfl
@[simp] theorem State.inc8Flags_fault (s : State) (v : Byte) : (inc8Flags v s).fault = s.fault := rfl
@[simp] theorem State.inc8Flags_output (s : State) (v : Byte) : (inc8Flags v s).output = s.output := rfl
@[simp] theorem State.inc8Flags_hostRunning (s : State) (v : Byte) : (inc8Flags v s).hostRunning = s.hostRunning := rfl
@[simp] theorem State.inc8Flags_cfg (s : State) (v : Byte) : (inc8Flags v s).cfg = s.cfg := rfl

@[simp] theorem State.dec8Flags_a (s : State) (v : Byte) : (dec8Flags v s).a = s.a := rfl
@[simp] theorem State.dec8Flags_b (s : State) (v : Byte) : (dec8Flags v s).b = s.b := rfl
@[simp] theorem State.dec8Flags_c (s : State) (v : Byte) : (dec8Flags v s).c = s.c := rfl
@[simp] theorem State.dec8Flags_d (s : State) (v : Byte) : (dec8Flags v s).d = s.d := rfl
@[simp] theorem State.dec8Flags_e (s : State) (v : Byte) : (dec8Flags v s).e = s.e := rfl
@[simp] theorem State.dec8Flags_h (s : State) (v : Byte) : (dec8Flags v s).h = s.h := rfl
@[simp] theorem State.dec8Flags_l (s : State) (v : Byte) : (dec8Flags v s).l = s.l := rfl
@[simp] theorem State.dec8Flags_sp (s : State) (v : Byte) : (dec8Flags v s).sp = s.sp := rfl
@[simp] theorem State.dec8Flags_pc (s : State) (v : Byte) : (dec8Flags v s).pc = s.pc := rfl
@[simp] theorem State.dec8Flags_mem (s : State) (v : Byte) : (dec8Flags v s).mem = s.mem := rfl
@[simp] theorem State.dec8Flags_bootEnabled (s : State) (v : Byte) : (dec8Flags v s).bootEnabled = s.bootEnabled := rfl
@[simp] theorem State.dec8Flags_phase (s : State) (v : Byte) : (dec8Flags v s).phase = s.phase := rfl
@[simp] theorem State.dec8Flags_scanCycles (s : State) (v : Byte) : (dec8Flags v s).scanCycles = s.scanCycles := rfl
@[simp] theorem State.dec8Flags_frameCycles (s : State) (v : Byte) : (dec8Flags v s).frameCycles = s.frameCycles := rfl
@[simp] theorem State.dec8Flags_instrCycles (s : State) (v : Byte) : (dec8Flags v s).instrCycles = s.instrCycles := rfl
@[simp] theorem State.dec8Flags_fault (s : State) (v : Byte) : (dec8Flags v s).fault = s.fault := rfl
@[simp] theorem State.dec8Flags_output (s : State) (v : Byte) : (dec8Flags v s).output = s.output := rfl
@[simp] theorem State.dec8Flags_hostRunning (s : State) (v : Byte) : (dec8Flags v s).hostRunning = s.hostRunning := rfl
@[simp] theorem State.dec8Flags_cfg (s : State) (v : Byte) : (dec8Flags v s).cfg = s.cfg := rfl

@[simp] theorem State.bitFlags_a (s : State) (b : Bool) : (bitFlags b s).a = s.a := rfl
@[simp] theorem State.bitFlags_b (s : State) (b : Bool) : (bitFlags b s).b = s.b := rfl
@[simp] theorem State.bitFlags_c (s : State) (b : Bool) : (bitFlags b s).c = s.c := rfl
@[simp] theorem State.bitFlags_d (s : State) (b : Bool) : (bitFlags b s).d = s.d := rfl
@[simp] theorem State.bitFlags_e (s : State) (b : Bool) : (bitFlags b s).e = s.e := rfl
@[simp] theorem State.bitFlags_h (s : State) (b : Bool) : (bitFlags b s).h = s.h := rfl
@[simp] theorem State.bitFlags_l (s : State) (b : Bool) : (bitFlags b s).l = s.l := rfl
@[simp] theorem State.bitFlags_sp (s : State) (b : Bool) : (bitFlags b s).sp = s.sp := rfl
@[simp] theorem State.bitFlags_pc (s : State) (b : Bool) : (bitFlags b s).pc = s.pc := rfl
@[simp] theorem State.bitFlags_mem (s : State) (b : Bool) : (bitFlags b s).mem = s.mem := rfl
@[simp] theorem State.bitFlags_bootEnabled (s : State) (b : Bool) : (bitFlags b s).bootEnabled = s.bootEnabled := rfl
@[simp] theorem State.bitFlags_phase (s : State) (b : Bool) : (bitFlags b s).phase = s.phase := rfl
@[simp] theorem State.bitFlags_scanCycles (s : State) (b : Bool) : (bitFlags b s).scanCycles = s.scanCycles := rfl
@[simp] theorem State.bitFlags_frameCycles (s : State) (b : Bool) : (bitFlags b s).frameCycles = s.frameCycles := rfl
@[simp] theorem State.bitFlags_instrCycles (s : State) (b : Bool) : (bitFlags b s).instrCycles = s.instrCycles := rfl
@[simp] theorem State.bitFlags_fault (s : State) (b : Bool) : (bitFlags b s).fault = s.fault := rfl
@[simp] theorem State.bitFlags_output (s : State) (b : Bool) : (bitFlags b s).output = s.output := rfl
@[simp] theorem State.bitFlags_hostRunning (s : State) (b : Bool) : (bitFlags b s).hostRunning = s.hostRunning := rfl
@[simp] theorem State.bitFlags_cfg (s : State) (b : Bool) : (bitFlags b s).cfg = s.cfg := rfl

@[simp] theorem State.rotateA_b (s : State) (k : RotOp) : (rotateA k s).b = s.b := rfl
@[simp] theorem State.rotateA_c (s : State) (k : RotOp) : (rotateA k s).c = s.c := rfl
@[simp] theorem State.rotateA_d (s : State) (k : RotOp) : (rotateA k s).d = s.d := rfl
@[simp] theorem State.rotateA_e (s : State) (k : RotOp) : (rotateA k s).e = s.e := rfl
@[simp] theorem State.rotateA_h (s : State) (k : RotOp) : (rotateA k s).h = s.h := rfl
@[simp] theorem State.rotateA_l (s : State) (k : RotOp) : (rotateA k s).l = s.l := rfl
@[simp] theorem State.rotateA_sp (s : State) (k : RotOp) : (rotateA k s).sp = s.sp := rfl
@[simp] theorem State.rotateA_pc (s : State) (k : RotOp) : (rotateA k s).pc = s.pc := rfl
@[simp] theorem State.rotateA_mem (s : State) (k : RotOp) : (rotateA k s).mem = s.mem := rfl
@[simp] theorem State.rotateA_bootEnabled (s : State) (k : RotOp) : (rotateA k s).bootEnabled = s.bootEnabled := rfl
@[simp] theorem State.rotateA_phase (s : State) (k : RotOp) : (rotateA k s).phase = s.phase := rfl
@[simp] theorem State.rotateA_scanCycles (s : State) (k : RotOp) : (rotateA k s).scanCycles = s.scanCycles := rfl
@[simp] theorem State.rotateA_frameCycles (s : State) (k : RotOp) : (rotateA k s).frameCycles = s.frameCycles := rfl
@[simp] theorem State.rotateA_instrCycles (s : State) (k : RotOp) : (rotateA k s).instrCycles = s.instrCycles := rfl
@[simp] theorem State.rotateA_fault (s : State) (k : RotOp) : (rotateA k s).fault = s.fault := rfl
@[simp] theorem State.rotateA_output (s : State) (k : RotOp) : (rotateA k s).output = s.output := rfl
@[simp] theorem State.rotateA_hostRunning (s : State) (k : RotOp) : (rotateA k s).hostRunning = s.hostRunning := rfl
@[simp] theorem State.rotateA_cfg (s : State) (k : RotOp) : (rotateA k s).cfg = s.cfg := rfl

@[simp] theorem State.addHL_a (s : State) (v : Addr) : (addHL v s).a = s.a := rfl
@[simp] theorem State.addHL_b (s : State) (v : Addr) : (addHL v s).b = s.b := rfl
@[simp] theorem State.addHL_c (s : State) (v : Addr) : (addHL v s).c = s.c := rfl
@[simp] theorem State.addHL_d (s : State) (v : Addr) : (addHL v s).d = s.d := rfl
@[simp] theorem State.addHL_e (s : State) (v : Addr) : (addHL v s).e = s.e := rfl
@[simp] theorem State.addHL_sp (s : State) (v : Addr) : (addHL v s).sp = s.sp := rfl
@[simp] theorem State.addHL_pc (s : State) (v : Addr) : (addHL v s).pc = s.pc := rfl
@[simp] theorem State.addHL_mem (s : State) (v : Addr) : (addHL v s).mem = s.mem := rfl
@[simp] theorem State.addHL_bootEnabled (s : State) (v : Addr) : (addHL v s).bootEnabled = s.bootEnabled := rfl
@[simp] theorem State.addHL_phase (s : State) (v : Addr) : (addHL v s).phase = s.phase := rfl
@[simp] theorem State.addHL_scanCycles (s : State) (v : Addr) : (addHL v s).scanCycles = s.scanCycles := rfl
@[simp] theorem State.addHL_frameCycles (s : State) (v : Addr) : (addHL v s).frameCycles = s.frameCycles := rfl
@[simp] theorem State.addHL_instrCycles (s : State) (v : Addr) : (addHL v s).instrCycles = s.instrCycles := rfl
@[simp] theorem State.addHL_fault (s : State) (v : Addr) : (addHL v s).fault = s.fault := rfl
@[simp] theorem State.addHL_output (s : State) (v : Addr) : (addHL v s).output = s.output := rfl
@[simp] theorem State.addHL_hostRunning (s : State) (v : Addr) : (addHL v s).hostRunning = s.hostRunning := rfl
@[simp] theorem State.addHL_cfg (s : State) (v : Addr) : (addHL v s).cfg = s.cfg := rfl

@[simp] theorem State.spFlags_a (s : State) (x : Addr) (v : Byte) : (spFlags x v s).a = s.a := rfl
@[simp] theorem State.spFlags_b (s : State) (x : Addr) (v : Byte) : (spFlags x v s).b = s.b := rfl
@[simp] theorem State.spFlags_c (s : State) (x : Addr) (v : Byte) : (spFlags x v s).c = s.c := rfl
@[simp] theorem State.spFlags_d (s : State) (x : Addr) (v : Byte) : (spFlags x v s).d = s.d := rfl
@[simp] theorem State.spFlags_e (s : State) (x : Addr) (v : Byte) : (spFlags x v s).e = s.e := rfl
@[simp] theorem State.spFlags_h (s : State) (x : Addr) (v : Byte) : (spFlags x v s).h = s.h := rfl
@[simp] theorem State.spFlags_l (s : State) (x : Addr) (v : Byte) : (spFlags x v s).l = s.l := rfl
@[simp] theorem State.spFlags_sp (s : State) (x : Addr) (v : Byte) : (spFlags x v s).sp = s.sp := rfl
@[simp] theorem State.spFlags_pc (s : State) (x : Addr) (v : Byte) : (spFlags x v s).pc = s.pc := rfl
@[simp] theorem State.spFlags_mem (s : State) (x : Addr) (v : Byte) : (spFlags x v s).mem = s.mem := rfl
@[simp] theorem State.spFlags_bootEnabled (s : State) (x : Addr) (v : Byte) : (spFlags x v s).bootEnabled = s.bootEnabled := rfl
@[simp] theorem State.spFlags_phase (s : State) (x : Addr) (v : Byte) : (spFlags x v s).phase = s.phase := rfl
@[simp] theorem State.spFlags_scanCycles (s : State) (x : Addr) (v : Byte) : (spFlags x v s).scanCycles = s.scanCycles := rfl
@[simp] theorem State.spFlags_frameCycles (s : State) (x : Addr) (v : Byte) : (spFlags x v s).frameCycles = s.frameCycles := rfl
@[simp] theorem State.spFlags_instrCycles (s : State) (x : Addr) (v : Byte) : (spFlags x v s).instrCycles = s.instrCycles := rfl
@[simp] theorem State.spFlags_fault (s : State) (x : Addr) (v : Byte) : (spFlags x v s).fault = s.fault := rfl
@[simp] theorem State.spFlags_output (s : State) (x : Addr) (v : Byte) : (spFlags x v s).output = s.output := rfl
@[simp] theorem State.spFlags_hostRunning (s : State) (x : Addr) (v : Byte) : (spFlags x v s).hostRunning = s.hostRunning := rfl
@[simp] theorem State.spFlags_cfg (s : State) (x : Addr) (v : Byte) : (spFlags x v s).cfg = s.cfg := rfl

@[simp] theorem State.post_a (s : State) (m : Mem16) : (m.post s).a = s.a := by cases m <;> rfl
@[simp] theorem State.post_b (s : State) (m : Mem16) : (m.post s).b = s.b := by cases m <;> rfl
@[simp] theorem State.post_c (s : State) (m : Mem16) : (m.post s).c = s.c := by cases m <;> rfl
@[simp] theorem State.post_d (s : State) (m : Mem16) : (m.post s).d = s.d := by cases m <;> rfl
@[simp] theorem State.post_e (s : State) (m : Mem16) : (m.post s).e = s.e := by cases m <;> rfl
@[simp] theorem State.post_f (s : State) (m : Mem16) : (m.post s).f = s.f := by cases m <;> rfl
@[simp] theorem State.post_sp (s : State) (m : Mem16) : (m.post s).sp = s.sp := by cases m <;> rfl
@[simp] theorem State.post_pc (s : State) (m : Mem16) : (m.post s).pc = s.pc := by cases m <;> rfl
@[simp] theorem State.post_mem (s : State) (m : Mem16) : (m.post s).mem = s.mem := by cases m <;> rfl
@[simp] theorem State.post_bootEnabled (s : State) (m : Mem16) : (m.post s).bootEnabled = s.bootEnabled := by cases m <;> rfl
@[simp] theorem State.post_phase (s : State) (m : Mem16) : (m.post s).phase = s.phase := by cases m <;> rfl
@[simp] theorem State.post_scanCycles (s : State) (m : Mem16) : (m.post s).scanCycles = s.scanCycles := by cases m <;> rfl
@[simp] theorem State.post_frameCycles (s : State) (m : Mem16) : (m.post s).frameCycles = s.frameCycles := by cases m <;> rfl
@[simp] theorem State.post_instrCycles (s : State) (m : Mem16) : (m.post s).instrCycles = s.instrCycles := by cases m <;> rfl
@[simp] theorem State.post_fault (s : State) (m : Mem16) : (m.post s).fault = s.fault := by cases m <;> rfl
@[simp] theorem State.post_output (s : State) (m : Mem16) : (m.post s).output = s.output := by cases m <;> rfl
@[simp] theorem State.post_hostRunning (s : State) (m : Mem16) : (m.post s).hostRunning = s.hostRunning := by cases m <;> rfl
@[simp] theorem State.post_cfg (s : State) (m : Mem16) : (m.post s).cfg = s.cfg := by cases m <;> rfl

@[simp] theorem State.store_mem (s : State) (x : Addr) (v : Byte) :
    (s.store x v).mem = Memory.write s.mem x.toNat v := by unfold State.store; split <;> rfl

@[simp] theorem State.setFlags_f (s : State) (z n h c : Bool) : (s.setFlags z n h c).f = packFlags z n h c := rfl
@[simp] theorem State.advance_pc (s : State) (n : Nat) : (s.advance n).pc = s.pc + BitVec.ofNat 16 n := rfl
@[simp] theorem State.jump_pc (s : State) (v : Addr) : (s.jump v).pc = v := rfl
@[simp] theorem State.cyc_instrCycles (s : State) (t : Table) (o : Byte) (k : Bool) (n : Nat) :
    (s.cyc t o k n).instrCycles = s.instrCycles + s.cfg.cost t o k n := rfl
@[simp] theorem State.setReg16_sp (s : State) (v : Addr) : (s.setReg16 .sp v).sp = v := rfl

end Sys2Proof.Machine
end

