-- ==== Sys2Proof/Laws/Ops.lean ====
section
/-! SUPPORT. One lemma per shared operation that says all it can do: the address decoder, words, the stack, operands, the
frame of an instruction, the phases. -/

namespace Sys2Proof.Machine

/-- An overlaid address is below 0x0100. -/
theorem State.lt_of_overlaid {s : State} {a : Addr} (h : s.overlaid a = true) : a.toNat < 0x0100 := by
  simp only [State.overlaid, Bool.and_eq_true, decide_eq_true_eq] at h
  exact h.2

/-- `MemRead(a, 1)` gives the byte there or turns the access down, by `canRead` (20_memory R62). -/
theorem State.memRead_eq (s : State) (a : Addr) :
    s.memRead a = if s.canRead a then .ok (s.byteAt a) else .error ⟨.read, a, s⟩ := by
  unfold State.memRead State.canRead State.byteAt
  cases s.overlaid a <;> cases isIo a <;> cases h : s.cfg.ioReadOk.contains a <;> simp_all

/-- `MemWrite(a, 1, v)` stores or turns the access down, by `canWrite` (20_memory R71). -/
theorem State.memWrite_eq (s : State) (a : Addr) (v : Byte) :
    s.memWrite a v = if s.canWrite a then .ok (s.store a v) else .error ⟨.write v, a, s⟩ := by
  have ho : s.overlaid a = true → a.toNat < 0x8000 := fun h => by have := State.lt_of_overlaid h; omega
  unfold State.memWrite State.canWrite
  by_cases hlt : a.toNat < 0x8000
  · simp [hlt]
  · have hov : s.overlaid a = false := by
      cases h : s.overlaid a
      · rfl
      · exact absurd (ho h) hlt
    have hge : (0x8000 ≤ a.toNat) := by omega
    cases isIo a <;> cases h : s.cfg.ioWriteOk.contains a <;> simp_all

/-- What the decoder lets through depends on the latch and the parameters alone. -/
theorem State.canRead_congr {s t : State} (hb : t.bootEnabled = s.bootEnabled) (hc : t.cfg = s.cfg) (a : Addr) :
    t.canRead a = s.canRead a := by simp [State.canRead, State.overlaid, hb, hc]

theorem State.canWrite_congr {s t : State} (hc : t.cfg = s.cfg) (a : Addr) : t.canWrite a = s.canWrite a := by
  simp [State.canWrite, hc]

theorem State.byteAt_congr {s t : State} (hb : t.bootEnabled = s.bootEnabled) (hc : t.cfg = s.cfg) (hm : t.mem = s.mem)
    (a : Addr) : t.byteAt a = s.byteAt a := by simp [State.byteAt, State.overlaid, hb, hc, hm]

@[simp] theorem State.canWrite_store (s : State) (x a : Addr) (v : Byte) : (s.store x v).canWrite a = s.canWrite a :=
  State.canWrite_congr (by simp) a

@[simp] theorem State.canRead_advance (s : State) (n : Nat) (a : Addr) : (s.advance n).canRead a = s.canRead a := rfl
@[simp] theorem State.canWrite_advance (s : State) (n : Nat) (a : Addr) : (s.advance n).canWrite a = s.canWrite a := rfl
@[simp] theorem State.byteAt_advance (s : State) (n : Nat) (a : Addr) : (s.advance n).byteAt a = s.byteAt a := rfl

/-- A permitted read (20_memory R62). -/
theorem State.memRead_ok {s : State} {a : Addr} (h : s.canRead a = true) : s.memRead a = .ok (s.byteAt a) := by
  simp [State.memRead_eq, h]

/-- A permitted write (20_memory R71). -/
theorem State.memWrite_ok {s : State} {a : Addr} (v : Byte) (h : s.canWrite a = true) :
    s.memWrite a v = .ok (s.store a v) := by simp [State.memWrite_eq, h]

/-- A permitted word read (20_memory R76). -/
theorem State.memRead2_ok {s : State} {a : Addr} (h : s.canReadWord a = true) : s.memRead2 a = .ok (s.wordAt a) := by
  simp only [State.canReadWord, Bool.and_eq_true] at h
  simp [State.memRead2, State.memRead_ok h.1, State.memRead_ok h.2, State.wordAt, bind, Except.bind]

/-- A permitted word write (20_memory R77). -/
theorem State.memWrite2_ok {s : State} {a : Addr} (v : Addr) (h : s.canWriteWord a = true) :
    s.memWrite2 a v = .ok (s.storeWord a v) := by
  simp only [State.canWriteWord, Bool.and_eq_true] at h
  have h2 : (s.store a (loByte v)).canWrite (a + 1#16) = true := by simpa using h.2
  simp [State.memWrite2, State.memWrite_ok _ h.1, State.memWrite_ok _ h2, State.storeWord, bind, Except.bind]

/-- A permitted push (42_control_stack R220). -/
theorem State.push16_ok {s : State} (v : Addr) (h : s.canWriteWord s.sp = true) :
    s.push16 v = .ok { s.storeWord s.sp v with sp := s.sp - 2#16 } := by
  simp [State.push16, State.memWrite2_ok v h, State.storeWord, bind, Except.bind]

/-- A permitted pop (42_control_stack R221). -/
theorem State.pop16_ok {s : State} (h : s.canReadWord (s.sp + 2#16) = true) :
    s.pop16 = .ok (s.wordAt (s.sp + 2#16), { s with sp := s.sp + 2#16 }) := by
  have h2 : State.canReadWord { s with sp := s.sp + 2#16 } (s.sp + 2#16) = true := h
  simp only [State.pop16, State.memRead2_ok h2, bind, Except.bind]
  rfl

/-- An instruction whose slot the profile models and whose operation answers. -/
theorem execSlot_ok {table : Table} {opcode : Byte} {n : Nat} {op : State → Micro State} {s t : State}
    (hm : s.cfg.models table opcode = true) (h : op (s.advance n) = .ok t) :
    execSlot table opcode n op s = .next t := by simp [execSlot, hm, h]

/-- An instruction whose operation makes an access that is turned down. -/
theorem execSlot_bad {table : Table} {opcode : Byte} {n : Nat} {op : State → Micro State} {s : State} {x : BadAccess}
    (hm : s.cfg.models table opcode = true) (h : op (s.advance n) = .error x) :
    execSlot table opcode n op s = raise (x.record s.pc) x.stopped := by simp [execSlot, hm, h]

/-- An instruction whose slot the profile leaves out (41_dispatch R204). -/
theorem execSlot_unmodeled {table : Table} {opcode : Byte} {n : Nat} {op : State → Micro State} {s : State}
    (hm : s.cfg.models table opcode = false) :
    execSlot table opcode n op s = unimplementedSlot table opcode s := by simp [execSlot, hm]

/-- A fatal error is never a next state. -/
theorem raise_ne_next (r : FatalError) (s t : State) : raise r s ≠ .next t := by cases r <;> simp [raise]

/-- A fatal error is never a refusal. -/
theorem raise_ne_refused (r : FatalError) (s : State) (q : Refusal) : raise r s ≠ .refused q := by
  cases r <;> simp [raise]

/-- If an instruction answers a next state, its slot is modeled and its operation answered that state. -/
theorem execSlot_next {table : Table} {opcode : Byte} {n : Nat} {op : State → Micro State} {s t : State}
    (h : execSlot table opcode n op s = .next t) : s.cfg.models table opcode = true ∧ op (s.advance n) = .ok t := by
  unfold execSlot at h
  split at h
  · rename_i hm
    refine ⟨hm, ?_⟩
    split at h
    · rename_i u hu
      cases h
      exact hu
    · exact absurd h (raise_ne_next _ _ _)
  · exact absurd h (raise_ne_next _ _ _)

/-- A step that ends in a next state: the host's input is off and nothing changed, or an instruction was fetched and
answered, and the updates followed. -/
theorem step_next {s t : State} (h : step s = .next t) :
    (s.hostRunning = false ∧ t = s) ∨
    (s.hostRunning = true ∧ s.fault = none ∧ ∃ i u, fetchInstr s.beginStep = .ok i ∧
      exec i s.beginStep = .next u ∧ t = afterInstruction u) := by
  unfold step gate at h
  split at h
  · rename_i hr
    split at h
    · rename_i hf
      refine .inr ⟨hr, hf, ?_⟩
      dsimp only at h
      split at h
      · rename_i i hi
        refine ⟨i, ?_⟩
        cases he : exec i s.beginStep with
        | next u =>
          rw [he] at h
          cases h
          exact ⟨u, hi, rfl, rfl⟩
        | fault f => rw [he] at h; cases h
        | refused r => rw [he] at h; cases h
      · exact absurd h (raise_ne_next _ _ _)
    · cases h
  · rename_i hr
    cases h
    exact .inl ⟨by simpa using hr, rfl⟩

end Sys2Proof.Machine
end

