-- ==== Sys2Proof/Laws/Changes.lean ====
section
/-! SUPPORT. What an instruction's operation can change, and which accesses can end it: said once for every shape of
operation, for Laws/Exec.lean to use for every instruction. -/

namespace Sys2Proof.Machine

/-- Everything an operation leaves alone or keeps true, apart from the cost it reports. -/
structure Changes (s t : State) : Prop where
  cfg : t.cfg = s.cfg
  boot : t.bootEnabled = s.bootEnabled
  phase : t.phase = s.phase
  scan : t.scanCycles = s.scanCycles
  frame : t.frameCycles = s.frameCycles
  fault : t.fault = s.fault
  host : t.hostRunning = s.hostRunning
  cost : t.instrCycles = s.instrCycles
  clean : s.flagsClean → t.flagsClean
  frozen : ∀ a, s.canWrite a = false → Memory.read t.mem a.toNat = Memory.read s.mem a.toNat
  wf : Memory.wf s.mem → Memory.wf t.mem
  grows : ∃ events, t.output = s.output ++ events

theorem Changes.refl (s : State) : Changes s s :=
  ⟨rfl, rfl, rfl, rfl, rfl, rfl, rfl, rfl, id, fun _ _ => rfl, id, [], by simp⟩

theorem Changes.trans {s t u : State} (h : Changes s t) (k : Changes t u) : Changes s u where
  cfg := k.cfg.trans h.cfg
  boot := k.boot.trans h.boot
  phase := k.phase.trans h.phase
  scan := k.scan.trans h.scan
  frame := k.frame.trans h.frame
  fault := k.fault.trans h.fault
  host := k.host.trans h.host
  cost := k.cost.trans h.cost
  clean := k.clean ∘ h.clean
  frozen a ha := (k.frozen a ((State.canWrite_congr h.cfg a).trans ha)).trans (h.frozen a ha)
  wf := k.wf ∘ h.wf
  grows := by
    obtain ⟨e1, h1⟩ := h.grows
    obtain ⟨e2, h2⟩ := k.grows
    exact ⟨e1 ++ e2, by simp [h2, h1]⟩

/-- A change of registers alone. -/
theorem Changes.registers {s t : State} (clean : s.flagsClean → t.flagsClean) (cfg : t.cfg = s.cfg := by simp)
    (boot : t.bootEnabled = s.bootEnabled := by simp) (phase : t.phase = s.phase := by simp)
    (scan : t.scanCycles = s.scanCycles := by simp) (frame : t.frameCycles = s.frameCycles := by simp)
    (fault : t.fault = s.fault := by simp) (host : t.hostRunning = s.hostRunning := by simp)
    (cost : t.instrCycles = s.instrCycles := by simp) (mem : t.mem = s.mem := by simp)
    (output : t.output = s.output := by simp) : Changes s t :=
  ⟨cfg, boot, phase, scan, frame, fault, host, cost, clean, fun _ _ => by rw [mem], fun h => by rw [mem]; exact h,
    [], by simp [output]⟩

theorem flagsClean_congr {s t : State} (h : t.f = s.f) : s.flagsClean → t.flagsClean := by
  unfold State.flagsClean; rw [h]; exact id

theorem packFlags_clean : ∀ z n h c, packFlags z n h c &&& 0x0F#8 = 0#8 := by decide

theorem putMask_clean (mask v : Byte) (b : Bool) (hm : mask &&& 0x0F#8 = 0#8) (hv : v &&& 0x0F#8 = 0#8) :
    putMask v mask b &&& 0x0F#8 = 0#8 := by
  cases b
  · simp only [putMask, Bool.false_eq_true, if_false, BitVec.and_assoc]
    rw [BitVec.and_comm (~~~mask), ← BitVec.and_assoc, hv, BitVec.zero_and]
  · simp only [putMask, if_true]
    rw [BitVec.and_or_distrib_right, hv, hm, BitVec.or_zero]

theorem setFlags_clean (s : State) (z n h c : Bool) : (s.setFlags z n h c).flagsClean := packFlags_clean z n h c

theorem Changes.setReg (s : State) (r : Reg8) (v : Byte) : Changes s (s.setReg r v) :=
  .registers (flagsClean_congr (by simp))

theorem Changes.setReg16 (s : State) (r : Reg16) (v : Addr) : Changes s (s.setReg16 r v) :=
  .registers (flagsClean_congr (by simp))

theorem Changes.setStk (s : State) (r : Stk16) (v : Addr) : Changes s (s.setStk r v) := by
  refine .registers ?_
  cases r
  case af =>
    intro _
    simp only [State.flagsClean, State.setStk, BitVec.and_assoc]
    exact BitVec.and_zero
  all_goals exact flagsClean_congr rfl

theorem Changes.setFlags (s : State) (z n h c : Bool) : Changes s (s.setFlags z n h c) :=
  .registers fun _ => setFlags_clean s z n h c

theorem Changes.alu (k : AluOp) (v : Byte) (s : State) : Changes s (alu k v s) := by
  refine .registers fun _ => ?_
  cases k <;> exact packFlags_clean _ _ _ _

theorem Changes.inc8Flags (v : Byte) (s : State) : Changes s (inc8Flags v s) :=
  .registers fun h => putMask_clean _ _ _ (by decide) (putMask_clean _ _ _ (by decide) (putMask_clean _ _ _ (by decide) h))

theorem Changes.dec8Flags (v : Byte) (s : State) : Changes s (dec8Flags v s) :=
  .registers fun h => putMask_clean _ _ _ (by decide) (putMask_clean _ _ _ (by decide) (putMask_clean _ _ _ (by decide) h))

theorem Changes.bitFlags (b : Bool) (s : State) : Changes s (bitFlags b s) :=
  .registers fun h => putMask_clean _ _ _ (by decide) (putMask_clean _ _ _ (by decide) (putMask_clean _ _ _ (by decide) h))

theorem Changes.daaA (s : State) : Changes s (daaA s) := by
  refine .registers (fun h => ?_) rfl rfl rfl rfl rfl rfl rfl rfl rfl rfl
  exact putMask_clean _ _ _ (by decide) (putMask_clean _ _ _ (by decide) (putMask_clean _ _ _ (by decide) h))

theorem Changes.cplA (s : State) : Changes s (cplA s) :=
  .registers (fun h => putMask_clean _ _ _ (by decide) (putMask_clean _ _ _ (by decide) h)) rfl rfl rfl rfl rfl rfl rfl rfl
    rfl rfl

theorem Changes.scfF (s : State) : Changes s (scfF s) :=
  .registers (fun h => putMask_clean _ _ _ (by decide) (putMask_clean _ _ _ (by decide) (putMask_clean _ _ _ (by decide) h)))
    rfl rfl rfl rfl rfl rfl rfl rfl rfl rfl

theorem Changes.ccfF (s : State) : Changes s (ccfF s) :=
  .registers (fun h => putMask_clean _ _ _ (by decide) (putMask_clean _ _ _ (by decide) (putMask_clean _ _ _ (by decide) h)))
    rfl rfl rfl rfl rfl rfl rfl rfl rfl rfl

theorem Changes.rotateA (k : RotOp) (s : State) : Changes s (rotateA k s) :=
  .registers fun _ => packFlags_clean _ _ _ _

theorem Changes.addHL (v : Addr) (s : State) : Changes s (addHL v s) := by
  refine .registers fun h => ?_
  exact putMask_clean _ _ _ (by decide) (putMask_clean _ _ _ (by decide) (putMask_clean _ _ _ (by decide) h))

theorem Changes.spFlags (x : Addr) (v : Byte) (s : State) : Changes s (spFlags x v s) :=
  .registers fun _ => packFlags_clean _ _ _ _

theorem Changes.jump (s : State) (x : Addr) : Changes s (s.jump x) := .registers (flagsClean_congr rfl)

theorem Changes.advance (s : State) (n : Nat) : Changes s (s.advance n) := .registers (flagsClean_congr rfl)

theorem Changes.moveSp (s : State) (x : Addr) : Changes s { s with sp := x } := .registers (flagsClean_congr rfl)

theorem Changes.post (m : Mem16) (s : State) : Changes s (m.post s) := .registers (flagsClean_congr (by simp))

/-- A permitted store touches its own byte of M and the output history. -/
theorem Changes.store {s : State} {a : Addr} (v : Byte) (ha : s.canWrite a = true) : Changes s (s.store a v) where
  cfg := by simp
  boot := by simp
  phase := by simp
  scan := by simp
  frame := by simp
  fault := by simp
  host := by simp
  cost := by simp
  clean := flagsClean_congr (by simp)
  frozen b hb := by
    have hne : b.toNat ≠ a.toNat := fun e => by
      have : b = a := BitVec.eq_of_toNat_eq e
      rw [this, ha] at hb
      cases hb
    simp [Memory.read_write_other _ _ _ _ hne]
  wf h := by
    rw [State.store_mem]
    exact Memory.wf_write _ _ _ h a.isLt
  grows := by
    unfold State.store
    split
    · exact ⟨_, rfl⟩
    · exact ⟨[], by simp⟩

/-- The access is one that the address decoder turns down in the state (60_exceptions R332 causes 3 to 6). -/
def BadAccess.turnedDown (x : BadAccess) (s : State) : Prop :=
  match x.access with
  | .read => s.canRead x.addr = false
  | .write _ => s.canWrite x.addr = false

/-- What a micro-operation can do: change as `Changes` says, or meet an access that is turned down. -/
def MicroFacts {α : Type} (s : State) (after : α → State) (r : Micro α) : Prop :=
  match r with
  | .ok v => Changes s (after v)
  | .error x => x.turnedDown s

theorem turnedDown_congr {s t : State} (h : Changes s t) {x : BadAccess} : x.turnedDown t → x.turnedDown s := by
  unfold BadAccess.turnedDown
  cases x.access
  · exact fun k => (State.canRead_congr h.boot h.cfg _).symm.trans k
  · exact fun k => (State.canWrite_congr h.cfg _).symm.trans k

/-- One micro-operation after another. -/
theorem MicroFacts.bind {α β : Type} {s : State} {after : α → State} {after2 : β → State} {m : Micro α}
    {k : α → Micro β} (hm : MicroFacts s after m) (hk : ∀ v, m = .ok v → MicroFacts (after v) after2 (k v)) :
    MicroFacts s after2 (m >>= k) := by
  cases m with
  | error x => exact hm
  | ok v =>
    have h := hk v rfl
    show MicroFacts s after2 (k v)
    unfold MicroFacts at h ⊢
    cases hr : k v with
    | ok w =>
      simp only [hr] at h
      exact Changes.trans hm h
    | error x =>
      simp only [hr] at h
      exact turnedDown_congr hm h

theorem MicroFacts.memRead (s : State) (a : Addr) : MicroFacts s (fun _ => s) (s.memRead a) := by
  rw [State.memRead_eq]
  split
  · exact Changes.refl s
  · rename_i h
    simpa [MicroFacts, BadAccess.turnedDown] using h

theorem MicroFacts.memWrite (s : State) (a : Addr) (v : Byte) : MicroFacts s id (s.memWrite a v) := by
  rw [State.memWrite_eq]
  split
  · rename_i h
    exact Changes.store v h
  · rename_i h
    simpa [MicroFacts, BadAccess.turnedDown] using h

theorem MicroFacts.memRead2 (s : State) (a : Addr) : MicroFacts s (fun _ => s) (s.memRead2 a) :=
  .bind (.memRead s a) fun _ _ => .bind (.memRead s _) fun _ _ => Changes.refl s

theorem MicroFacts.memWrite2 (s : State) (a v : Addr) : MicroFacts s id (s.memWrite2 a v) :=
  .bind (.memWrite s a _) fun t _ => .memWrite t _ _

theorem MicroFacts.push16 (s : State) (v : Addr) : MicroFacts s id (s.push16 v) :=
  .bind (.memWrite2 s s.sp v) fun t _ => Changes.moveSp t _

theorem MicroFacts.pop16 (s : State) : MicroFacts s Prod.snd s.pop16 := by
  have h : MicroFacts s (fun _ => { s with sp := s.sp + 2#16 }) (.ok () : Micro Unit) := Changes.moveSp s _
  have k := MicroFacts.bind (k := fun _ => State.pop16 s) (after2 := Prod.snd) h fun _ _ =>
    MicroFacts.bind (.memRead2 _ _) fun _ _ => Changes.refl { s with sp := s.sp + 2#16 }
  exact k

theorem MicroFacts.readOperand (s : State) (o : Operand8) : MicroFacts s (fun _ => s) (s.readOperand o) := by
  cases o
  · exact Changes.refl s
  · exact .memRead s _

theorem MicroFacts.writeOperand (s : State) (o : Operand8) (v : Byte) : MicroFacts s id (s.writeOperand o v) := by
  cases o
  · exact Changes.setReg s _ v
  · exact .memWrite s _ v

theorem MicroFacts.call (s : State) (x : Addr) : MicroFacts s id (s.call x) :=
  .bind (.push16 s _) fun t _ => Changes.jump t x

theorem MicroFacts.ret (s : State) : MicroFacts s id s.ret :=
  .bind (.pop16 s) fun r _ => Changes.jump r.2 r.1

/-- What the operation of an instruction in a slot can do: answer a state that changed as `Changes` says and then
reported one cost, its default between 4 and 24 (70_reset_and_hazards R395), or meet an access that is turned down. -/
def OpFacts (table : Table) (opcode : Byte) (op : State → Micro State) : Prop :=
  ∀ s, match op s with
    | .ok t => ∃ u taken n, Changes s u ∧ 4 ≤ n ∧ n ≤ 24 ∧ t = u.cyc table opcode taken n
    | .error x => x.turnedDown s

variable {table : Table} {opcode : Byte}

/-- An operation whose last act is to report its cost. -/
theorem OpFacts.ofMicro {s : State} {m : Micro State} {taken : Bool} {n : Nat} (h4 : 4 ≤ n) (h24 : n ≤ 24)
    (h : MicroFacts s id m) :
    match (m >>= fun u => .ok (u.cyc table opcode taken n) : Micro State) with
    | .ok t => ∃ u taken n, Changes s u ∧ 4 ≤ n ∧ n ≤ 24 ∧ t = u.cyc table opcode taken n
    | .error x => x.turnedDown s := by
  cases m with
  | error x => exact h
  | ok u => exact ⟨u, taken, n, h, h4, h24, rfl⟩

/-- An operation without a memory access. -/
theorem OpFacts.pure {f : State → State} {taken : Bool} {n : Nat} (h4 : 4 ≤ n) (h24 : n ≤ 24)
    (h : ∀ s, Changes s (f s)) : OpFacts table opcode fun t => .ok ((f t).cyc table opcode taken n) :=
  fun s => ⟨f s, taken, n, h s, h4, h24, rfl⟩

/-- An operation given as one micro-operation and the cost. -/
theorem OpFacts.micro {m : State → Micro State} {taken : Bool} {n : Nat} (h4 : 4 ≤ n) (h24 : n ≤ 24)
    (h : ∀ s, MicroFacts s id (m s)) :
    OpFacts table opcode (fun s => do
      let u ← m s
      .ok (u.cyc table opcode taken n)) := fun s => OpFacts.ofMicro h4 h24 (h s)

/-- An operation given as a micro-operation, a change of state and the cost. -/
theorem OpFacts.after {α : Type} {m : State → Micro α} {mid : State → α → State} (g : State → α → State)
    {taken : Bool} {n : Nat} (h4 : 4 ≤ n) (h24 : n ≤ 24) (hm : ∀ s, MicroFacts s (mid s) (m s))
    (hg : ∀ s v, Changes (mid s v) (g s v)) :
    OpFacts table opcode (fun s => do
      let v ← m s
      .ok ((g s v).cyc table opcode taken n)) := by
  intro s
  have h := hm s
  cases hs : m s with
  | error x => simpa [hs, MicroFacts, bind, Except.bind] using h
  | ok v =>
    simp only [hs, MicroFacts] at h
    simp only [hs, bind, Except.bind]
    exact ⟨g s v, taken, n, h.trans (hg s v), h4, h24, rfl⟩

/-- A conditional operation. -/
theorem OpFacts.ite {b : State → Bool} {p q : State → Micro State} (hp : OpFacts table opcode p)
    (hq : OpFacts table opcode q) : OpFacts table opcode fun t => if b t then p t else q t := by
  intro s
  cases hb : b s
  · have h := hq s
    simp only [hb, Bool.false_eq_true, if_false]
    exact h
  · have h := hp s
    simp only [hb, if_true]
    exact h

end Sys2Proof.Machine
end

