-- ==== Sys2Proof/Laws/Exec.lean ====
section
/-! SUPPORT. What exec can do, for every instruction: which slot it stands in, that its meaning is the frame of one
instruction around an operation with known facts, and what follows for a next state and for a fatal error. -/

namespace Sys2Proof.Machine

/-- A meaning is the frame of one instruction of the slot around an operation of which `OpFacts` holds. -/
def Runs (table : Table) (opcode : Byte) (meaning : State → Result) : Prop :=
  ∃ n op, OpFacts table opcode op ∧ ∀ s, meaning s = execSlot table opcode n op s

theorem ldReg_runs (d r : Reg8) (o : Byte) : Runs .primary o (ldReg d r o) :=
  ⟨1, _, .pure (by decide) (by decide) fun s => .setReg s d _, fun _ => rfl⟩

theorem ldFromHL_runs (d : Reg8) (o : Byte) : Runs .primary o (ldFromHL d o) :=
  ⟨1, _, .after (fun s v => s.setReg d v) (by decide) (by decide) (fun s => .memRead s s.hl) fun s v => .setReg s d v, fun _ => rfl⟩

theorem ldToHL_runs (r : Reg8) (o : Byte) : Runs .primary o (ldToHL r o) :=
  ⟨1, _, .micro (by decide) (by decide) (fun s => .memWrite s s.hl (s.reg r)), fun _ => rfl⟩

theorem ldImm_runs (d : Reg8) (n8 o : Byte) : Runs .primary o (ldImm d n8 o) :=
  ⟨2, _, .pure (by decide) (by decide) fun s => .setReg s d n8, fun _ => rfl⟩

theorem ldToHLImm_runs (n8 o : Byte) : Runs .primary o (ldToHLImm n8 o) :=
  ⟨2, _, .micro (by decide) (by decide) (fun s => .memWrite s s.hl n8), fun _ => rfl⟩

theorem storeA_runs (m : Mem16) (o : Byte) : Runs .primary o (storeA m o) :=
  ⟨1, _, .after (fun _ u => m.post u) (by decide) (by decide) (fun s => .memWrite s (m.addr s) s.a) fun _ u => .post m u, fun _ => rfl⟩

theorem loadA_runs (m : Mem16) (o : Byte) : Runs .primary o (loadA m o) :=
  ⟨1, _, .after (fun s v => m.post (s.setReg .a v)) (by decide) (by decide) (fun s => .memRead s (m.addr s))
    fun s v => (Changes.setReg s .a v).trans (.post m _), fun _ => rfl⟩

theorem storeAAt_runs (a : Addr) (n c : Nat) (o : Byte) (h4 : 4 ≤ c) (h24 : c ≤ 24) :
    Runs .primary o (storeAAt a n c o) :=
  ⟨n, _, .micro h4 h24 (fun s => .memWrite s a s.a), fun _ => rfl⟩

theorem loadAAt_runs (a : Addr) (n c : Nat) (o : Byte) (h4 : 4 ≤ c) (h24 : c ≤ 24) :
    Runs .primary o (loadAAt a n c o) :=
  ⟨n, _, .after (fun s v => s.setReg .a v) h4 h24 (fun s => .memRead s a) fun s v => .setReg s .a v, fun _ => rfl⟩

theorem storeAHighC_runs (o : Byte) : Runs .primary o (storeAHighC o) :=
  ⟨1, _, .micro (by decide) (by decide) (fun s => .memWrite s _ s.a), fun _ => rfl⟩

theorem loadAHighC_runs (o : Byte) : Runs .primary o (loadAHighC o) :=
  ⟨1, _, .after (fun s v => s.setReg .a v) (by decide) (by decide) (fun s => .memRead s (highPage s.c)) fun s v => .setReg s .a v,
    fun _ => rfl⟩

theorem ld16_runs (r : Reg16) (n16 : Addr) (o : Byte) : Runs .primary o (ld16 r n16 o) :=
  ⟨3, _, .pure (by decide) (by decide) fun s => .setReg16 s r n16, fun _ => rfl⟩

theorem storeSP_runs (n16 : Addr) (o : Byte) : Runs .primary o (storeSP n16 o) :=
  ⟨3, _, .micro (by decide) (by decide) (fun s => .memWrite2 s n16 s.sp), fun _ => rfl⟩

theorem ldSpHL_runs (o : Byte) : Runs .primary o (ldSpHL o) :=
  ⟨1, _, .pure (by decide) (by decide) fun s => .setReg16 s .sp s.hl, fun _ => rfl⟩

theorem ldHLSp_runs (e8 o : Byte) : Runs .primary o (ldHLSp e8 o) :=
  ⟨2, _, .pure (by decide) (by decide) fun s => (Changes.setReg16 s .hl _).trans (.spFlags _ e8 _), fun _ => rfl⟩

theorem addSp_runs (e8 o : Byte) : Runs .primary o (addSp e8 o) :=
  ⟨2, _, .pure (by decide) (by decide) fun s => (Changes.setReg16 s .sp _).trans (.spFlags _ e8 _), fun _ => rfl⟩

theorem inc16_runs (r : Reg16) (o : Byte) : Runs .primary o (inc16 r o) :=
  ⟨1, _, .pure (by decide) (by decide) fun s => .setReg16 s r _, fun _ => rfl⟩

theorem dec16_runs (r : Reg16) (o : Byte) : Runs .primary o (dec16 r o) :=
  ⟨1, _, .pure (by decide) (by decide) fun s => .setReg16 s r _, fun _ => rfl⟩

theorem addHLReg_runs (r : Reg16) (o : Byte) : Runs .primary o (addHLReg r o) :=
  ⟨1, _, .pure (by decide) (by decide) fun s => .addHL _ s, fun _ => rfl⟩

theorem aluReg_runs (k : AluOp) (r : Reg8) (o : Byte) : Runs .primary o (aluReg k r o) :=
  ⟨1, _, .pure (by decide) (by decide) fun s => .alu k _ s, fun _ => rfl⟩

theorem aluAtHL_runs (k : AluOp) (o : Byte) : Runs .primary o (aluAtHL k o) :=
  ⟨1, _, .after (fun s v => alu k v s) (by decide) (by decide) (fun s => .memRead s s.hl) fun s v => .alu k v s, fun _ => rfl⟩

theorem aluImm_runs (k : AluOp) (n8 o : Byte) : Runs .primary o (aluImm k n8 o) :=
  ⟨2, _, .pure (by decide) (by decide) fun s => .alu k n8 s, fun _ => rfl⟩

theorem cycles_bounds (o : Operand8) (m n : Nat) (hm : 4 ≤ m ∧ m ≤ 24) (hn : 4 ≤ n ∧ n ≤ 24) :
    4 ≤ o.cycles m n ∧ o.cycles m n ≤ 24 := by cases o <;> assumption

/-- Read an operand, write it back, then registers: INC, DEC, rotates, RES, SET. -/
theorem modify_facts {table : Table} {opcode : Byte} (x : Operand8) (g : State → Byte → Byte)
    (f : State → Byte → State → State) (n : Nat) (h4 : 4 ≤ n) (h24 : n ≤ 24) (hf : ∀ s v u, Changes u (f s v u)) :
    OpFacts table opcode (fun s => do
      let v ← s.readOperand x
      let u ← s.writeOperand x (g s v)
      .ok ((f s v u).cyc table opcode false n)) := by
  intro s
  have hr := MicroFacts.readOperand s x
  cases h : s.readOperand x with
  | error y => simpa [h, MicroFacts, bind, Except.bind] using hr
  | ok v =>
    have hw := MicroFacts.writeOperand s x (g s v)
    cases k : s.writeOperand x (g s v) with
    | error y =>
      simp only [k, MicroFacts] at hw
      simpa [h, k, bind, Except.bind] using hw
    | ok u =>
      simp only [k, MicroFacts] at hw
      simp only [h, k, bind, Except.bind]
      exact ⟨f s v u, false, n, hw.trans (hf s v u), h4, h24, rfl⟩

theorem incOperand_runs (x : Operand8) (o : Byte) : Runs .primary o (incOperand x o) :=
  have hc := cycles_bounds x 4 12 (by decide) (by decide)
  ⟨1, _, modify_facts x (fun _ v => v + 1#8) (fun _ v u => inc8Flags v u) _ hc.1 hc.2 fun _ v u => .inc8Flags v u,
    fun _ => rfl⟩

theorem decOperand_runs (x : Operand8) (o : Byte) : Runs .primary o (decOperand x o) :=
  have hc := cycles_bounds x 4 12 (by decide) (by decide)
  ⟨1, _, modify_facts x (fun _ v => v - 1#8) (fun _ v u => dec8Flags v u) _ hc.1 hc.2 fun _ v u => .dec8Flags v u,
    fun _ => rfl⟩

theorem adjust_runs (f : State → State) (o : Byte) (h : ∀ s, Changes s (f s)) : Runs .primary o (adjust f o) :=
  ⟨1, _, .pure (by decide) (by decide) h, fun _ => rfl⟩

theorem rotateAcc_runs (k : RotOp) (o : Byte) : Runs .primary o (rotateAcc k o) :=
  ⟨1, _, .pure (by decide) (by decide) fun s => .rotateA k s, fun _ => rfl⟩

theorem rotateOperand_runs (k : RotOp) (x : Operand8) (o : Byte) : Runs .extended o (rotateOperand k x o) :=
  have hc := cycles_bounds x 8 16 (by decide) (by decide)
  ⟨2, _, modify_facts x (fun s v => (rotate k s.cf v).1)
    (fun s v u => u.setFlags ((rotate k s.cf v).1 == 0#8) false false (rotate k s.cf v).2) _ hc.1 hc.2
    fun _ _ u => .setFlags u _ _ _ _, fun _ => rfl⟩

theorem bitOperand_runs (b : Nat) (x : Operand8) (o : Byte) : Runs .extended o (bitOperand b x o) :=
  have hc := cycles_bounds x 8 12 (by decide) (by decide)
  ⟨2, _, OpFacts.after (m := fun s => s.readOperand x) (mid := fun s _ => s) (fun s v => bitFlags (v.getLsbD b) s)
    hc.1 hc.2 (fun s => .readOperand s x) fun s v => .bitFlags (v.getLsbD b) s, fun _ => rfl⟩

theorem resOperand_runs (b : Nat) (x : Operand8) (o : Byte) : Runs .extended o (resOperand b x o) :=
  have hc := cycles_bounds x 8 16 (by decide) (by decide)
  ⟨2, _, modify_facts x (fun _ v => v &&& ~~~(1#8 <<< b)) (fun _ _ u => u) _ hc.1 hc.2 fun _ _ u => .refl u, fun _ => rfl⟩

theorem setOperand_runs (b : Nat) (x : Operand8) (o : Byte) : Runs .extended o (setOperand b x o) :=
  have hc := cycles_bounds x 8 16 (by decide) (by decide)
  ⟨2, _, modify_facts x (fun _ v => v ||| (1#8 <<< b)) (fun _ _ u => u) _ hc.1 hc.2 fun _ _ u => .refl u, fun _ => rfl⟩

theorem pushStk_runs (r : Stk16) (o : Byte) : Runs .primary o (pushStk r o) :=
  ⟨1, _, .micro (by decide) (by decide) (fun s => .push16 s (s.stk r)), fun _ => rfl⟩

theorem popStk_runs (r : Stk16) (o : Byte) : Runs .primary o (popStk r o) :=
  ⟨1, _, .after (fun _ v => v.2.setStk r v.1) (by decide) (by decide) (fun s => .pop16 s) fun _ v => .setStk v.2 r v.1, fun _ => rfl⟩

theorem jrAlways_runs (e8 o : Byte) : Runs .primary o (jrAlways e8 o) :=
  ⟨2, _, .pure (by decide) (by decide) fun s => .jump s _, fun _ => rfl⟩

theorem jrCond_runs (k : Cond) (e8 o : Byte) : Runs .primary o (jrCond k e8 o) :=
  ⟨2, _, .ite (.pure (by decide) (by decide) fun s => .jump s _) (.pure (by decide) (by decide) fun s => .refl s),
    fun _ => rfl⟩

theorem jpAlways_runs (n16 : Addr) (o : Byte) : Runs .primary o (jpAlways n16 o) :=
  ⟨3, _, .pure (by decide) (by decide) fun s => .jump s _, fun _ => rfl⟩

theorem jpCond_runs (k : Cond) (n16 : Addr) (o : Byte) : Runs .primary o (jpCond k n16 o) :=
  ⟨3, _, .ite (.pure (by decide) (by decide) fun s => .jump s _) (.pure (by decide) (by decide) fun s => .refl s),
    fun _ => rfl⟩

theorem jpHL_runs (o : Byte) : Runs .primary o (jpHL o) :=
  ⟨1, _, .pure (by decide) (by decide) fun s => .jump s _, fun _ => rfl⟩

theorem callAlways_runs (n16 : Addr) (o : Byte) : Runs .primary o (callAlways n16 o) :=
  ⟨3, _, .micro (by decide) (by decide) (fun s => .call s n16), fun _ => rfl⟩

theorem callCond_runs (k : Cond) (n16 : Addr) (o : Byte) : Runs .primary o (callCond k n16 o) :=
  ⟨3, _, .ite (.micro (by decide) (by decide) (fun s => .call s n16))
    (.pure (by decide) (by decide) fun s => .refl s), fun _ => rfl⟩

theorem retAlways_runs (o : Byte) : Runs .primary o (retAlways o) :=
  ⟨1, _, .micro (by decide) (by decide) (fun s => .ret s), fun _ => rfl⟩

theorem retCond_runs (k : Cond) (o : Byte) : Runs .primary o (retCond k o) :=
  ⟨1, _, .ite (.micro (by decide) (by decide) (fun s => .ret s))
    (.pure (by decide) (by decide) fun s => .refl s), fun _ => rfl⟩

theorem restart_runs (x : Addr) (o : Byte) : Runs .primary o (restart x o) :=
  ⟨1, _, .micro (by decide) (by decide) (fun s => .call s x), fun _ => rfl⟩

theorem noEffect_runs (o : Byte) : Runs .primary o (noEffect o) :=
  ⟨1, _, .pure (by decide) (by decide) fun s => .refl s, fun _ => rfl⟩

/-- What the meaning of an instruction is, by the slot it stands in: the frame around an operation, or the handler of an
unimplemented slot. -/
def SlotFacts (i : Instr) : Prop :=
  Runs (slotOf i).1 (slotOf i).2 (exec i) ∨
    (∀ c : Config, c.models (slotOf i).1 (slotOf i).2 = false) ∧
      ∀ s, exec i s = unimplementedSlot (slotOf i).1 (slotOf i).2 s

/-- A slot that no parameters model (30_encoding R131). -/
theorem models_never {op : Byte} (h : neverModeled.contains op = true) (hne : (op == 0xCB#8) = false) (c : Config) :
    c.models .primary op = false := by
  simp only [Config.models, h, hne, Bool.true_or, Bool.not_true, Bool.or_self]

/-- Every instruction but the 0xCB slot alone. -/
theorem exec_slotFacts (i : Instr) (hw : i.wellFormed = true) : SlotFacts i := by
  cases i with
  | nop => exact .inl (noEffect_runs 0x00#8)
  | ld_BC_n16 n16 => exact .inl (ld16_runs .bc n16 0x01#8)
  | ld_atBC_A => exact .inl (storeA_runs .atBC 0x02#8)
  | inc_BC => exact .inl (inc16_runs .bc 0x03#8)
  | inc_B => exact .inl (incOperand_runs (.reg .b) 0x04#8)
  | dec_B => exact .inl (decOperand_runs (.reg .b) 0x05#8)
  | ld_B_n8 n8 => exact .inl (ldImm_runs .b n8 0x06#8)
  | rlca => exact .inl (rotateAcc_runs .rlc 0x07#8)
  | ld_atN16_SP n16 => exact .inl (storeSP_runs n16 0x08#8)
  | add_HL_BC => exact .inl (addHLReg_runs .bc 0x09#8)
  | ld_A_atBC => exact .inl (loadA_runs .atBC 0x0A#8)
  | dec_BC => exact .inl (dec16_runs .bc 0x0B#8)
  | inc_C => exact .inl (incOperand_runs (.reg .c) 0x0C#8)
  | dec_C => exact .inl (decOperand_runs (.reg .c) 0x0D#8)
  | ld_C_n8 n8 => exact .inl (ldImm_runs .c n8 0x0E#8)
  | rrca => exact .inl (rotateAcc_runs .rrc 0x0F#8)
  | stop => exact .inr ⟨models_never rfl rfl, fun _ => rfl⟩
  | ld_DE_n16 n16 => exact .inl (ld16_runs .de n16 0x11#8)
  | ld_atDE_A => exact .inl (storeA_runs .atDE 0x12#8)
  | inc_DE => exact .inl (inc16_runs .de 0x13#8)
  | inc_D => exact .inl (incOperand_runs (.reg .d) 0x14#8)
  | dec_D => exact .inl (decOperand_runs (.reg .d) 0x15#8)
  | ld_D_n8 n8 => exact .inl (ldImm_runs .d n8 0x16#8)
  | rla => exact .inl (rotateAcc_runs .rl 0x17#8)
  | jr_e8 e8 => exact .inl (jrAlways_runs e8 0x18#8)
  | add_HL_DE => exact .inl (addHLReg_runs .de 0x19#8)
  | ld_A_atDE => exact .inl (loadA_runs .atDE 0x1A#8)
  | dec_DE => exact .inl (dec16_runs .de 0x1B#8)
  | inc_E => exact .inl (incOperand_runs (.reg .e) 0x1C#8)
  | dec_E => exact .inl (decOperand_runs (.reg .e) 0x1D#8)
  | ld_E_n8 n8 => exact .inl (ldImm_runs .e n8 0x1E#8)
  | rra => exact .inl (rotateAcc_runs .rr 0x1F#8)
  | jr_NZ_e8 e8 => exact .inl (jrCond_runs .nz e8 0x20#8)
  | ld_HL_n16 n16 => exact .inl (ld16_runs .hl n16 0x21#8)
  | ld_atHLI_A => exact .inl (storeA_runs .atHLI 0x22#8)
  | inc_HL => exact .inl (inc16_runs .hl 0x23#8)
  | inc_H => exact .inl (incOperand_runs (.reg .h) 0x24#8)
  | dec_H => exact .inl (decOperand_runs (.reg .h) 0x25#8)
  | ld_H_n8 n8 => exact .inl (ldImm_runs .h n8 0x26#8)
  | daa => exact .inl (adjust_runs daaA 0x27#8 Changes.daaA)
  | jr_Z_e8 e8 => exact .inl (jrCond_runs .z e8 0x28#8)
  | add_HL_HL => exact .inl (addHLReg_runs .hl 0x29#8)
  | ld_A_atHLI => exact .inl (loadA_runs .atHLI 0x2A#8)
  | dec_HL => exact .inl (dec16_runs .hl 0x2B#8)
  | inc_L => exact .inl (incOperand_runs (.reg .l) 0x2C#8)
  | dec_L => exact .inl (decOperand_runs (.reg .l) 0x2D#8)
  | ld_L_n8 n8 => exact .inl (ldImm_runs .l n8 0x2E#8)
  | cpl => exact .inl (adjust_runs cplA 0x2F#8 Changes.cplA)
  | jr_NC_e8 e8 => exact .inl (jrCond_runs .nc e8 0x30#8)
  | ld_SP_n16 n16 => exact .inl (ld16_runs .sp n16 0x31#8)
  | ld_atHLD_A => exact .inl (storeA_runs .atHLD 0x32#8)
  | inc_SP => exact .inl (inc16_runs .sp 0x33#8)
  | inc_atHL => exact .inl (incOperand_runs .atHL 0x34#8)
  | dec_atHL => exact .inl (decOperand_runs .atHL 0x35#8)
  | ld_atHL_n8 n8 => exact .inl (ldToHLImm_runs n8 0x36#8)
  | scf => exact .inl (adjust_runs scfF 0x37#8 Changes.scfF)
  | jr_C_e8 e8 => exact .inl (jrCond_runs .c e8 0x38#8)
  | add_HL_SP => exact .inl (addHLReg_runs .sp 0x39#8)
  | ld_A_atHLD => exact .inl (loadA_runs .atHLD 0x3A#8)
  | dec_SP => exact .inl (dec16_runs .sp 0x3B#8)
  | inc_A => exact .inl (incOperand_runs (.reg .a) 0x3C#8)
  | dec_A => exact .inl (decOperand_runs (.reg .a) 0x3D#8)
  | ld_A_n8 n8 => exact .inl (ldImm_runs .a n8 0x3E#8)
  | ccf => exact .inl (adjust_runs ccfF 0x3F#8 Changes.ccfF)
  | ld_B_B => exact .inl (ldReg_runs .b .b 0x40#8)
  | ld_B_C => exact .inl (ldReg_runs .b .c 0x41#8)
  | ld_B_D => exact .inl (ldReg_runs .b .d 0x42#8)
  | ld_B_E => exact .inl (ldReg_runs .b .e 0x43#8)
  | ld_B_H => exact .inl (ldReg_runs .b .h 0x44#8)
  | ld_B_L => exact .inl (ldReg_runs .b .l 0x45#8)
  | ld_B_atHL => exact .inl (ldFromHL_runs .b 0x46#8)
  | ld_B_A => exact .inl (ldReg_runs .b .a 0x47#8)
  | ld_C_B => exact .inl (ldReg_runs .c .b 0x48#8)
  | ld_C_C => exact .inl (ldReg_runs .c .c 0x49#8)
  | ld_C_D => exact .inl (ldReg_runs .c .d 0x4A#8)
  | ld_C_E => exact .inl (ldReg_runs .c .e 0x4B#8)
  | ld_C_H => exact .inl (ldReg_runs .c .h 0x4C#8)
  | ld_C_L => exact .inl (ldReg_runs .c .l 0x4D#8)
  | ld_C_atHL => exact .inl (ldFromHL_runs .c 0x4E#8)
  | ld_C_A => exact .inl (ldReg_runs .c .a 0x4F#8)
  | ld_D_B => exact .inl (ldReg_runs .d .b 0x50#8)
  | ld_D_C => exact .inl (ldReg_runs .d .c 0x51#8)
  | ld_D_D => exact .inl (ldReg_runs .d .d 0x52#8)
  | ld_D_E => exact .inl (ldReg_runs .d .e 0x53#8)
  | ld_D_H => exact .inl (ldReg_runs .d .h 0x54#8)
  | ld_D_L => exact .inl (ldReg_runs .d .l 0x55#8)
  | ld_D_atHL => exact .inl (ldFromHL_runs .d 0x56#8)
  | ld_D_A => exact .inl (ldReg_runs .d .a 0x57#8)
  | ld_E_B => exact .inl (ldReg_runs .e .b 0x58#8)
  | ld_E_C => exact .inl (ldReg_runs .e .c 0x59#8)
  | ld_E_D => exact .inl (ldReg_runs .e .d 0x5A#8)
  | ld_E_E => exact .inl (ldReg_runs .e .e 0x5B#8)
  | ld_E_H => exact .inl (ldReg_runs .e .h 0x5C#8)
  | ld_E_L => exact .inl (ldReg_runs .e .l 0x5D#8)
  | ld_E_atHL => exact .inl (ldFromHL_runs .e 0x5E#8)
  | ld_E_A => exact .inl (ldReg_runs .e .a 0x5F#8)
  | ld_H_B => exact .inl (ldReg_runs .h .b 0x60#8)
  | ld_H_C => exact .inl (ldReg_runs .h .c 0x61#8)
  | ld_H_D => exact .inl (ldReg_runs .h .d 0x62#8)
  | ld_H_E => exact .inl (ldReg_runs .h .e 0x63#8)
  | ld_H_H => exact .inl (ldReg_runs .h .h 0x64#8)
  | ld_H_L => exact .inl (ldReg_runs .h .l 0x65#8)
  | ld_H_atHL => exact .inl (ldFromHL_runs .h 0x66#8)
  | ld_H_A => exact .inl (ldReg_runs .h .a 0x67#8)
  | ld_L_B => exact .inl (ldReg_runs .l .b 0x68#8)
  | ld_L_C => exact .inl (ldReg_runs .l .c 0x69#8)
  | ld_L_D => exact .inl (ldReg_runs .l .d 0x6A#8)
  | ld_L_E => exact .inl (ldReg_runs .l .e 0x6B#8)
  | ld_L_H => exact .inl (ldReg_runs .l .h 0x6C#8)
  | ld_L_L => exact .inl (ldReg_runs .l .l 0x6D#8)
  | ld_L_atHL => exact .inl (ldFromHL_runs .l 0x6E#8)
  | ld_L_A => exact .inl (ldReg_runs .l .a 0x6F#8)
  | ld_atHL_B => exact .inl (ldToHL_runs .b 0x70#8)
  | ld_atHL_C => exact .inl (ldToHL_runs .c 0x71#8)
  | ld_atHL_D => exact .inl (ldToHL_runs .d 0x72#8)
  | ld_atHL_E => exact .inl (ldToHL_runs .e 0x73#8)
  | ld_atHL_H => exact .inl (ldToHL_runs .h 0x74#8)
  | ld_atHL_L => exact .inl (ldToHL_runs .l 0x75#8)
  | halt => exact .inr ⟨models_never rfl rfl, fun _ => rfl⟩
  | ld_atHL_A => exact .inl (ldToHL_runs .a 0x77#8)
  | ld_A_B => exact .inl (ldReg_runs .a .b 0x78#8)
  | ld_A_C => exact .inl (ldReg_runs .a .c 0x79#8)
  | ld_A_D => exact .inl (ldReg_runs .a .d 0x7A#8)
  | ld_A_E => exact .inl (ldReg_runs .a .e 0x7B#8)
  | ld_A_H => exact .inl (ldReg_runs .a .h 0x7C#8)
  | ld_A_L => exact .inl (ldReg_runs .a .l 0x7D#8)
  | ld_A_atHL => exact .inl (ldFromHL_runs .a 0x7E#8)
  | ld_A_A => exact .inl (ldReg_runs .a .a 0x7F#8)
  | add_B => exact .inl (aluReg_runs .add .b 0x80#8)
  | add_C => exact .inl (aluReg_runs .add .c 0x81#8)
  | add_D => exact .inl (aluReg_runs .add .d 0x82#8)
  | add_E => exact .inl (aluReg_runs .add .e 0x83#8)
  | add_H => exact .inl (aluReg_runs .add .h 0x84#8)
  | add_L => exact .inl (aluReg_runs .add .l 0x85#8)
  | add_atHL => exact .inl (aluAtHL_runs .add 0x86#8)
  | add_A => exact .inl (aluReg_runs .add .a 0x87#8)
  | adc_B => exact .inl (aluReg_runs .adc .b 0x88#8)
  | adc_C => exact .inl (aluReg_runs .adc .c 0x89#8)
  | adc_D => exact .inl (aluReg_runs .adc .d 0x8A#8)
  | adc_E => exact .inl (aluReg_runs .adc .e 0x8B#8)
  | adc_H => exact .inl (aluReg_runs .adc .h 0x8C#8)
  | adc_L => exact .inl (aluReg_runs .adc .l 0x8D#8)
  | adc_atHL => exact .inl (aluAtHL_runs .adc 0x8E#8)
  | adc_A => exact .inl (aluReg_runs .adc .a 0x8F#8)
  | sub_B => exact .inl (aluReg_runs .sub .b 0x90#8)
  | sub_C => exact .inl (aluReg_runs .sub .c 0x91#8)
  | sub_D => exact .inl (aluReg_runs .sub .d 0x92#8)
  | sub_E => exact .inl (aluReg_runs .sub .e 0x93#8)
  | sub_H => exact .inl (aluReg_runs .sub .h 0x94#8)
  | sub_L => exact .inl (aluReg_runs .sub .l 0x95#8)
  | sub_atHL => exact .inl (aluAtHL_runs .sub 0x96#8)
  | sub_A => exact .inl (aluReg_runs .sub .a 0x97#8)
  | sbc_B => exact .inl (aluReg_runs .sbc .b 0x98#8)
  | sbc_C => exact .inl (aluReg_runs .sbc .c 0x99#8)
  | sbc_D => exact .inl (aluReg_runs .sbc .d 0x9A#8)
  | sbc_E => exact .inl (aluReg_runs .sbc .e 0x9B#8)
  | sbc_H => exact .inl (aluReg_runs .sbc .h 0x9C#8)
  | sbc_L => exact .inl (aluReg_runs .sbc .l 0x9D#8)
  | sbc_atHL => exact .inl (aluAtHL_runs .sbc 0x9E#8)
  | sbc_A => exact .inl (aluReg_runs .sbc .a 0x9F#8)
  | and_B => exact .inl (aluReg_runs .and .b 0xA0#8)
  | and_C => exact .inl (aluReg_runs .and .c 0xA1#8)
  | and_D => exact .inl (aluReg_runs .and .d 0xA2#8)
  | and_E => exact .inl (aluReg_runs .and .e 0xA3#8)
  | and_H => exact .inl (aluReg_runs .and .h 0xA4#8)
  | and_L => exact .inl (aluReg_runs .and .l 0xA5#8)
  | and_atHL => exact .inl (aluAtHL_runs .and 0xA6#8)
  | and_A => exact .inl (aluReg_runs .and .a 0xA7#8)
  | xor_B => exact .inl (aluReg_runs .xor .b 0xA8#8)
  | xor_C => exact .inl (aluReg_runs .xor .c 0xA9#8)
  | xor_D => exact .inl (aluReg_runs .xor .d 0xAA#8)
  | xor_E => exact .inl (aluReg_runs .xor .e 0xAB#8)
  | xor_H => exact .inl (aluReg_runs .xor .h 0xAC#8)
  | xor_L => exact .inl (aluReg_runs .xor .l 0xAD#8)
  | xor_atHL => exact .inl (aluAtHL_runs .xor 0xAE#8)
  | xor_A => exact .inl (aluReg_runs .xor .a 0xAF#8)
  | or_B => exact .inl (aluReg_runs .or .b 0xB0#8)
  | or_C => exact .inl (aluReg_runs .or .c 0xB1#8)
  | or_D => exact .inl (aluReg_runs .or .d 0xB2#8)
  | or_E => exact .inl (aluReg_runs .or .e 0xB3#8)
  | or_H => exact .inl (aluReg_runs .or .h 0xB4#8)
  | or_L => exact .inl (aluReg_runs .or .l 0xB5#8)
  | or_atHL => exact .inl (aluAtHL_runs .or 0xB6#8)
  | or_A => exact .inl (aluReg_runs .or .a 0xB7#8)
  | cp_B => exact .inl (aluReg_runs .cp .b 0xB8#8)
  | cp_C => exact .inl (aluReg_runs .cp .c 0xB9#8)
  | cp_D => exact .inl (aluReg_runs .cp .d 0xBA#8)
  | cp_E => exact .inl (aluReg_runs .cp .e 0xBB#8)
  | cp_H => exact .inl (aluReg_runs .cp .h 0xBC#8)
  | cp_L => exact .inl (aluReg_runs .cp .l 0xBD#8)
  | cp_atHL => exact .inl (aluAtHL_runs .cp 0xBE#8)
  | cp_A => exact .inl (aluReg_runs .cp .a 0xBF#8)
  | ret_NZ => exact .inl (retCond_runs .nz 0xC0#8)
  | pop_BC => exact .inl (popStk_runs .bc 0xC1#8)
  | jp_NZ_n16 n16 => exact .inl (jpCond_runs .nz n16 0xC2#8)
  | jp_n16 n16 => exact .inl (jpAlways_runs n16 0xC3#8)
  | call_NZ_n16 n16 => exact .inl (callCond_runs .nz n16 0xC4#8)
  | push_BC => exact .inl (pushStk_runs .bc 0xC5#8)
  | add_n8 n8 => exact .inl (aluImm_runs .add n8 0xC6#8)
  | rst_00 => exact .inl (restart_runs 0x0000#16 0xC7#8)
  | ret_Z => exact .inl (retCond_runs .z 0xC8#8)
  | ret => exact .inl (retAlways_runs 0xC9#8)
  | jp_Z_n16 n16 => exact .inl (jpCond_runs .z n16 0xCA#8)
  | cbPrefix => exact absurd hw (by decide)
  | call_Z_n16 n16 => exact .inl (callCond_runs .z n16 0xCC#8)
  | call_n16 n16 => exact .inl (callAlways_runs n16 0xCD#8)
  | adc_n8 n8 => exact .inl (aluImm_runs .adc n8 0xCE#8)
  | rst_08 => exact .inl (restart_runs 0x0008#16 0xCF#8)
  | ret_NC => exact .inl (retCond_runs .nc 0xD0#8)
  | pop_DE => exact .inl (popStk_runs .de 0xD1#8)
  | jp_NC_n16 n16 => exact .inl (jpCond_runs .nc n16 0xD2#8)
  | unimpl_D3 => exact .inr ⟨models_never rfl rfl, fun _ => rfl⟩
  | call_NC_n16 n16 => exact .inl (callCond_runs .nc n16 0xD4#8)
  | push_DE => exact .inl (pushStk_runs .de 0xD5#8)
  | sub_n8 n8 => exact .inl (aluImm_runs .sub n8 0xD6#8)
  | rst_10 => exact .inl (restart_runs 0x0010#16 0xD7#8)
  | ret_C => exact .inl (retCond_runs .c 0xD8#8)
  | reti => exact .inl (retAlways_runs 0xD9#8)
  | jp_C_n16 n16 => exact .inl (jpCond_runs .c n16 0xDA#8)
  | unimpl_DB => exact .inr ⟨models_never rfl rfl, fun _ => rfl⟩
  | call_C_n16 n16 => exact .inl (callCond_runs .c n16 0xDC#8)
  | unimpl_DD => exact .inr ⟨models_never rfl rfl, fun _ => rfl⟩
  | sbc_n8 n8 => exact .inl (aluImm_runs .sbc n8 0xDE#8)
  | rst_18 => exact .inl (restart_runs 0x0018#16 0xDF#8)
  | ldh_atN8_A n8 => exact .inl (storeAAt_runs (highPage n8) 2 12 0xE0#8 (by decide) (by decide))
  | pop_HL => exact .inl (popStk_runs .hl 0xE1#8)
  | ld_atC_A => exact .inl (storeAHighC_runs 0xE2#8)
  | unimpl_E3 => exact .inr ⟨models_never rfl rfl, fun _ => rfl⟩
  | unimpl_E4 => exact .inr ⟨models_never rfl rfl, fun _ => rfl⟩
  | push_HL => exact .inl (pushStk_runs .hl 0xE5#8)
  | and_n8 n8 => exact .inl (aluImm_runs .and n8 0xE6#8)
  | rst_20 => exact .inl (restart_runs 0x0020#16 0xE7#8)
  | add_SP_e8 e8 => exact .inl (addSp_runs e8 0xE8#8)
  | jp_HL => exact .inl (jpHL_runs 0xE9#8)
  | ld_atN16_A n16 => exact .inl (storeAAt_runs n16 3 16 0xEA#8 (by decide) (by decide))
  | unimpl_EB => exact .inr ⟨models_never rfl rfl, fun _ => rfl⟩
  | unimpl_EC => exact .inr ⟨models_never rfl rfl, fun _ => rfl⟩
  | unimpl_ED => exact .inr ⟨models_never rfl rfl, fun _ => rfl⟩
  | xor_n8 n8 => exact .inl (aluImm_runs .xor n8 0xEE#8)
  | rst_28 => exact .inl (restart_runs 0x0028#16 0xEF#8)
  | ldh_A_atN8 n8 => exact .inl (loadAAt_runs (highPage n8) 2 12 0xF0#8 (by decide) (by decide))
  | pop_AF => exact .inl (popStk_runs .af 0xF1#8)
  | ld_A_atC => exact .inl (loadAHighC_runs 0xF2#8)
  | di => exact .inl (noEffect_runs 0xF3#8)
  | unimpl_F4 => exact .inr ⟨models_never rfl rfl, fun _ => rfl⟩
  | push_AF => exact .inl (pushStk_runs .af 0xF5#8)
  | or_n8 n8 => exact .inl (aluImm_runs .or n8 0xF6#8)
  | rst_30 => exact .inl (restart_runs 0x0030#16 0xF7#8)
  | ld_HL_SPe8 e8 => exact .inl (ldHLSp_runs e8 0xF8#8)
  | ld_SP_HL => exact .inl (ldSpHL_runs 0xF9#8)
  | ld_A_atN16 n16 => exact .inl (loadAAt_runs n16 3 16 0xFA#8 (by decide) (by decide))
  | ei => exact .inl (noEffect_runs 0xFB#8)
  | unimpl_FC => exact .inr ⟨models_never rfl rfl, fun _ => rfl⟩
  | unimpl_FD => exact .inr ⟨models_never rfl rfl, fun _ => rfl⟩
  | cp_n8 n8 => exact .inl (aluImm_runs .cp n8 0xFE#8)
  | rst_38 => exact .inl (restart_runs 0x0038#16 0xFF#8)
  | rlc_B => exact .inl (rotateOperand_runs .rlc (.reg .b) 0x00#8)
  | rlc_C => exact .inl (rotateOperand_runs .rlc (.reg .c) 0x01#8)
  | rlc_D => exact .inl (rotateOperand_runs .rlc (.reg .d) 0x02#8)
  | rlc_E => exact .inl (rotateOperand_runs .rlc (.reg .e) 0x03#8)
  | rlc_H => exact .inl (rotateOperand_runs .rlc (.reg .h) 0x04#8)
  | rlc_L => exact .inl (rotateOperand_runs .rlc (.reg .l) 0x05#8)
  | rlc_atHL => exact .inl (rotateOperand_runs .rlc .atHL 0x06#8)
  | rlc_A => exact .inl (rotateOperand_runs .rlc (.reg .a) 0x07#8)
  | rrc_B => exact .inl (rotateOperand_runs .rrc (.reg .b) 0x08#8)
  | rrc_C => exact .inl (rotateOperand_runs .rrc (.reg .c) 0x09#8)
  | rrc_D => exact .inl (rotateOperand_runs .rrc (.reg .d) 0x0A#8)
  | rrc_E => exact .inl (rotateOperand_runs .rrc (.reg .e) 0x0B#8)
  | rrc_H => exact .inl (rotateOperand_runs .rrc (.reg .h) 0x0C#8)
  | rrc_L => exact .inl (rotateOperand_runs .rrc (.reg .l) 0x0D#8)
  | rrc_atHL => exact .inl (rotateOperand_runs .rrc .atHL 0x0E#8)
  | rrc_A => exact .inl (rotateOperand_runs .rrc (.reg .a) 0x0F#8)
  | rl_B => exact .inl (rotateOperand_runs .rl (.reg .b) 0x10#8)
  | rl_C => exact .inl (rotateOperand_runs .rl (.reg .c) 0x11#8)
  | rl_D => exact .inl (rotateOperand_runs .rl (.reg .d) 0x12#8)
  | rl_E => exact .inl (rotateOperand_runs .rl (.reg .e) 0x13#8)
  | rl_H => exact .inl (rotateOperand_runs .rl (.reg .h) 0x14#8)
  | rl_L => exact .inl (rotateOperand_runs .rl (.reg .l) 0x15#8)
  | rl_atHL => exact .inl (rotateOperand_runs .rl .atHL 0x16#8)
  | rl_A => exact .inl (rotateOperand_runs .rl (.reg .a) 0x17#8)
  | rr_B => exact .inl (rotateOperand_runs .rr (.reg .b) 0x18#8)
  | rr_C => exact .inl (rotateOperand_runs .rr (.reg .c) 0x19#8)
  | rr_D => exact .inl (rotateOperand_runs .rr (.reg .d) 0x1A#8)
  | rr_E => exact .inl (rotateOperand_runs .rr (.reg .e) 0x1B#8)
  | rr_H => exact .inl (rotateOperand_runs .rr (.reg .h) 0x1C#8)
  | rr_L => exact .inl (rotateOperand_runs .rr (.reg .l) 0x1D#8)
  | rr_atHL => exact .inl (rotateOperand_runs .rr .atHL 0x1E#8)
  | rr_A => exact .inl (rotateOperand_runs .rr (.reg .a) 0x1F#8)
  | sla_B => exact .inl (rotateOperand_runs .sla (.reg .b) 0x20#8)
  | sla_C => exact .inl (rotateOperand_runs .sla (.reg .c) 0x21#8)
  | sla_D => exact .inl (rotateOperand_runs .sla (.reg .d) 0x22#8)
  | sla_E => exact .inl (rotateOperand_runs .sla (.reg .e) 0x23#8)
  | sla_H => exact .inl (rotateOperand_runs .sla (.reg .h) 0x24#8)
  | sla_L => exact .inl (rotateOperand_runs .sla (.reg .l) 0x25#8)
  | sla_atHL => exact .inl (rotateOperand_runs .sla .atHL 0x26#8)
  | sla_A => exact .inl (rotateOperand_runs .sla (.reg .a) 0x27#8)
  | sra_B => exact .inl (rotateOperand_runs .sra (.reg .b) 0x28#8)
  | sra_C => exact .inl (rotateOperand_runs .sra (.reg .c) 0x29#8)
  | sra_D => exact .inl (rotateOperand_runs .sra (.reg .d) 0x2A#8)
  | sra_E => exact .inl (rotateOperand_runs .sra (.reg .e) 0x2B#8)
  | sra_H => exact .inl (rotateOperand_runs .sra (.reg .h) 0x2C#8)
  | sra_L => exact .inl (rotateOperand_runs .sra (.reg .l) 0x2D#8)
  | sra_atHL => exact .inl (rotateOperand_runs .sra .atHL 0x2E#8)
  | sra_A => exact .inl (rotateOperand_runs .sra (.reg .a) 0x2F#8)
  | swap_B => exact .inl (rotateOperand_runs .swap (.reg .b) 0x30#8)
  | swap_C => exact .inl (rotateOperand_runs .swap (.reg .c) 0x31#8)
  | swap_D => exact .inl (rotateOperand_runs .swap (.reg .d) 0x32#8)
  | swap_E => exact .inl (rotateOperand_runs .swap (.reg .e) 0x33#8)
  | swap_H => exact .inl (rotateOperand_runs .swap (.reg .h) 0x34#8)
  | swap_L => exact .inl (rotateOperand_runs .swap (.reg .l) 0x35#8)
  | swap_atHL => exact .inl (rotateOperand_runs .swap .atHL 0x36#8)
  | swap_A => exact .inl (rotateOperand_runs .swap (.reg .a) 0x37#8)
  | srl_B => exact .inl (rotateOperand_runs .srl (.reg .b) 0x38#8)
  | srl_C => exact .inl (rotateOperand_runs .srl (.reg .c) 0x39#8)
  | srl_D => exact .inl (rotateOperand_runs .srl (.reg .d) 0x3A#8)
  | srl_E => exact .inl (rotateOperand_runs .srl (.reg .e) 0x3B#8)
  | srl_H => exact .inl (rotateOperand_runs .srl (.reg .h) 0x3C#8)
  | srl_L => exact .inl (rotateOperand_runs .srl (.reg .l) 0x3D#8)
  | srl_atHL => exact .inl (rotateOperand_runs .srl .atHL 0x3E#8)
  | srl_A => exact .inl (rotateOperand_runs .srl (.reg .a) 0x3F#8)
  | bit_0_B => exact .inl (bitOperand_runs 0 (.reg .b) 0x40#8)
  | bit_0_C => exact .inl (bitOperand_runs 0 (.reg .c) 0x41#8)
  | bit_0_D => exact .inl (bitOperand_runs 0 (.reg .d) 0x42#8)
  | bit_0_E => exact .inl (bitOperand_runs 0 (.reg .e) 0x43#8)
  | bit_0_H => exact .inl (bitOperand_runs 0 (.reg .h) 0x44#8)
  | bit_0_L => exact .inl (bitOperand_runs 0 (.reg .l) 0x45#8)
  | bit_0_atHL => exact .inl (bitOperand_runs 0 .atHL 0x46#8)
  | bit_0_A => exact .inl (bitOperand_runs 0 (.reg .a) 0x47#8)
  | bit_1_B => exact .inl (bitOperand_runs 1 (.reg .b) 0x48#8)
  | bit_1_C => exact .inl (bitOperand_runs 1 (.reg .c) 0x49#8)
  | bit_1_D => exact .inl (bitOperand_runs 1 (.reg .d) 0x4A#8)
  | bit_1_E => exact .inl (bitOperand_runs 1 (.reg .e) 0x4B#8)
  | bit_1_H => exact .inl (bitOperand_runs 1 (.reg .h) 0x4C#8)
  | bit_1_L => exact .inl (bitOperand_runs 1 (.reg .l) 0x4D#8)
  | bit_1_atHL => exact .inl (bitOperand_runs 1 .atHL 0x4E#8)
  | bit_1_A => exact .inl (bitOperand_runs 1 (.reg .a) 0x4F#8)
  | bit_2_B => exact .inl (bitOperand_runs 2 (.reg .b) 0x50#8)
  | bit_2_C => exact .inl (bitOperand_runs 2 (.reg .c) 0x51#8)
  | bit_2_D => exact .inl (bitOperand_runs 2 (.reg .d) 0x52#8)
  | bit_2_E => exact .inl (bitOperand_runs 2 (.reg .e) 0x53#8)
  | bit_2_H => exact .inl (bitOperand_runs 2 (.reg .h) 0x54#8)
  | bit_2_L => exact .inl (bitOperand_runs 2 (.reg .l) 0x55#8)
  | bit_2_atHL => exact .inl (bitOperand_runs 2 .atHL 0x56#8)
  | bit_2_A => exact .inl (bitOperand_runs 2 (.reg .a) 0x57#8)
  | bit_3_B => exact .inl (bitOperand_runs 3 (.reg .b) 0x58#8)
  | bit_3_C => exact .inl (bitOperand_runs 3 (.reg .c) 0x59#8)
  | bit_3_D => exact .inl (bitOperand_runs 3 (.reg .d) 0x5A#8)
  | bit_3_E => exact .inl (bitOperand_runs 3 (.reg .e) 0x5B#8)
  | bit_3_H => exact .inl (bitOperand_runs 3 (.reg .h) 0x5C#8)
  | bit_3_L => exact .inl (bitOperand_runs 3 (.reg .l) 0x5D#8)
  | bit_3_atHL => exact .inl (bitOperand_runs 3 .atHL 0x5E#8)
  | bit_3_A => exact .inl (bitOperand_runs 3 (.reg .a) 0x5F#8)
  | bit_4_B => exact .inl (bitOperand_runs 4 (.reg .b) 0x60#8)
  | bit_4_C => exact .inl (bitOperand_runs 4 (.reg .c) 0x61#8)
  | bit_4_D => exact .inl (bitOperand_runs 4 (.reg .d) 0x62#8)
  | bit_4_E => exact .inl (bitOperand_runs 4 (.reg .e) 0x63#8)
  | bit_4_H => exact .inl (bitOperand_runs 4 (.reg .h) 0x64#8)
  | bit_4_L => exact .inl (bitOperand_runs 4 (.reg .l) 0x65#8)
  | bit_4_atHL => exact .inl (bitOperand_runs 4 .atHL 0x66#8)
  | bit_4_A => exact .inl (bitOperand_runs 4 (.reg .a) 0x67#8)
  | bit_5_B => exact .inl (bitOperand_runs 5 (.reg .b) 0x68#8)
  | bit_5_C => exact .inl (bitOperand_runs 5 (.reg .c) 0x69#8)
  | bit_5_D => exact .inl (bitOperand_runs 5 (.reg .d) 0x6A#8)
  | bit_5_E => exact .inl (bitOperand_runs 5 (.reg .e) 0x6B#8)
  | bit_5_H => exact .inl (bitOperand_runs 5 (.reg .h) 0x6C#8)
  | bit_5_L => exact .inl (bitOperand_runs 5 (.reg .l) 0x6D#8)
  | bit_5_atHL => exact .inl (bitOperand_runs 5 .atHL 0x6E#8)
  | bit_5_A => exact .inl (bitOperand_runs 5 (.reg .a) 0x6F#8)
  | bit_6_B => exact .inl (bitOperand_runs 6 (.reg .b) 0x70#8)
  | bit_6_C => exact .inl (bitOperand_runs 6 (.reg .c) 0x71#8)
  | bit_6_D => exact .inl (bitOperand_runs 6 (.reg .d) 0x72#8)
  | bit_6_E => exact .inl (bitOperand_runs 6 (.reg .e) 0x73#8)
  | bit_6_H => exact .inl (bitOperand_runs 6 (.reg .h) 0x74#8)
  | bit_6_L => exact .inl (bitOperand_runs 6 (.reg .l) 0x75#8)
  | bit_6_atHL => exact .inl (bitOperand_runs 6 .atHL 0x76#8)
  | bit_6_A => exact .inl (bitOperand_runs 6 (.reg .a) 0x77#8)
  | bit_7_B => exact .inl (bitOperand_runs 7 (.reg .b) 0x78#8)
  | bit_7_C => exact .inl (bitOperand_runs 7 (.reg .c) 0x79#8)
  | bit_7_D => exact .inl (bitOperand_runs 7 (.reg .d) 0x7A#8)
  | bit_7_E => exact .inl (bitOperand_runs 7 (.reg .e) 0x7B#8)
  | bit_7_H => exact .inl (bitOperand_runs 7 (.reg .h) 0x7C#8)
  | bit_7_L => exact .inl (bitOperand_runs 7 (.reg .l) 0x7D#8)
  | bit_7_atHL => exact .inl (bitOperand_runs 7 .atHL 0x7E#8)
  | bit_7_A => exact .inl (bitOperand_runs 7 (.reg .a) 0x7F#8)
  | res_0_B => exact .inl (resOperand_runs 0 (.reg .b) 0x80#8)
  | res_0_C => exact .inl (resOperand_runs 0 (.reg .c) 0x81#8)
  | res_0_D => exact .inl (resOperand_runs 0 (.reg .d) 0x82#8)
  | res_0_E => exact .inl (resOperand_runs 0 (.reg .e) 0x83#8)
  | res_0_H => exact .inl (resOperand_runs 0 (.reg .h) 0x84#8)
  | res_0_L => exact .inl (resOperand_runs 0 (.reg .l) 0x85#8)
  | res_0_atHL => exact .inl (resOperand_runs 0 .atHL 0x86#8)
  | res_0_A => exact .inl (resOperand_runs 0 (.reg .a) 0x87#8)
  | res_1_B => exact .inl (resOperand_runs 1 (.reg .b) 0x88#8)
  | res_1_C => exact .inl (resOperand_runs 1 (.reg .c) 0x89#8)
  | res_1_D => exact .inl (resOperand_runs 1 (.reg .d) 0x8A#8)
  | res_1_E => exact .inl (resOperand_runs 1 (.reg .e) 0x8B#8)
  | res_1_H => exact .inl (resOperand_runs 1 (.reg .h) 0x8C#8)
  | res_1_L => exact .inl (resOperand_runs 1 (.reg .l) 0x8D#8)
  | res_1_atHL => exact .inl (resOperand_runs 1 .atHL 0x8E#8)
  | res_1_A => exact .inl (resOperand_runs 1 (.reg .a) 0x8F#8)
  | res_2_B => exact .inl (resOperand_runs 2 (.reg .b) 0x90#8)
  | res_2_C => exact .inl (resOperand_runs 2 (.reg .c) 0x91#8)
  | res_2_D => exact .inl (resOperand_runs 2 (.reg .d) 0x92#8)
  | res_2_E => exact .inl (resOperand_runs 2 (.reg .e) 0x93#8)
  | res_2_H => exact .inl (resOperand_runs 2 (.reg .h) 0x94#8)
  | res_2_L => exact .inl (resOperand_runs 2 (.reg .l) 0x95#8)
  | res_2_atHL => exact .inl (resOperand_runs 2 .atHL 0x96#8)
  | res_2_A => exact .inl (resOperand_runs 2 (.reg .a) 0x97#8)
  | res_3_B => exact .inl (resOperand_runs 3 (.reg .b) 0x98#8)
  | res_3_C => exact .inl (resOperand_runs 3 (.reg .c) 0x99#8)
  | res_3_D => exact .inl (resOperand_runs 3 (.reg .d) 0x9A#8)
  | res_3_E => exact .inl (resOperand_runs 3 (.reg .e) 0x9B#8)
  | res_3_H => exact .inl (resOperand_runs 3 (.reg .h) 0x9C#8)
  | res_3_L => exact .inl (resOperand_runs 3 (.reg .l) 0x9D#8)
  | res_3_atHL => exact .inl (resOperand_runs 3 .atHL 0x9E#8)
  | res_3_A => exact .inl (resOperand_runs 3 (.reg .a) 0x9F#8)
  | res_4_B => exact .inl (resOperand_runs 4 (.reg .b) 0xA0#8)
  | res_4_C => exact .inl (resOperand_runs 4 (.reg .c) 0xA1#8)
  | res_4_D => exact .inl (resOperand_runs 4 (.reg .d) 0xA2#8)
  | res_4_E => exact .inl (resOperand_runs 4 (.reg .e) 0xA3#8)
  | res_4_H => exact .inl (resOperand_runs 4 (.reg .h) 0xA4#8)
  | res_4_L => exact .inl (resOperand_runs 4 (.reg .l) 0xA5#8)
  | res_4_atHL => exact .inl (resOperand_runs 4 .atHL 0xA6#8)
  | res_4_A => exact .inl (resOperand_runs 4 (.reg .a) 0xA7#8)
  | res_5_B => exact .inl (resOperand_runs 5 (.reg .b) 0xA8#8)
  | res_5_C => exact .inl (resOperand_runs 5 (.reg .c) 0xA9#8)
  | res_5_D => exact .inl (resOperand_runs 5 (.reg .d) 0xAA#8)
  | res_5_E => exact .inl (resOperand_runs 5 (.reg .e) 0xAB#8)
  | res_5_H => exact .inl (resOperand_runs 5 (.reg .h) 0xAC#8)
  | res_5_L => exact .inl (resOperand_runs 5 (.reg .l) 0xAD#8)
  | res_5_atHL => exact .inl (resOperand_runs 5 .atHL 0xAE#8)
  | res_5_A => exact .inl (resOperand_runs 5 (.reg .a) 0xAF#8)
  | res_6_B => exact .inl (resOperand_runs 6 (.reg .b) 0xB0#8)
  | res_6_C => exact .inl (resOperand_runs 6 (.reg .c) 0xB1#8)
  | res_6_D => exact .inl (resOperand_runs 6 (.reg .d) 0xB2#8)
  | res_6_E => exact .inl (resOperand_runs 6 (.reg .e) 0xB3#8)
  | res_6_H => exact .inl (resOperand_runs 6 (.reg .h) 0xB4#8)
  | res_6_L => exact .inl (resOperand_runs 6 (.reg .l) 0xB5#8)
  | res_6_atHL => exact .inl (resOperand_runs 6 .atHL 0xB6#8)
  | res_6_A => exact .inl (resOperand_runs 6 (.reg .a) 0xB7#8)
  | res_7_B => exact .inl (resOperand_runs 7 (.reg .b) 0xB8#8)
  | res_7_C => exact .inl (resOperand_runs 7 (.reg .c) 0xB9#8)
  | res_7_D => exact .inl (resOperand_runs 7 (.reg .d) 0xBA#8)
  | res_7_E => exact .inl (resOperand_runs 7 (.reg .e) 0xBB#8)
  | res_7_H => exact .inl (resOperand_runs 7 (.reg .h) 0xBC#8)
  | res_7_L => exact .inl (resOperand_runs 7 (.reg .l) 0xBD#8)
  | res_7_atHL => exact .inl (resOperand_runs 7 .atHL 0xBE#8)
  | res_7_A => exact .inl (resOperand_runs 7 (.reg .a) 0xBF#8)
  | set_0_B => exact .inl (setOperand_runs 0 (.reg .b) 0xC0#8)
  | set_0_C => exact .inl (setOperand_runs 0 (.reg .c) 0xC1#8)
  | set_0_D => exact .inl (setOperand_runs 0 (.reg .d) 0xC2#8)
  | set_0_E => exact .inl (setOperand_runs 0 (.reg .e) 0xC3#8)
  | set_0_H => exact .inl (setOperand_runs 0 (.reg .h) 0xC4#8)
  | set_0_L => exact .inl (setOperand_runs 0 (.reg .l) 0xC5#8)
  | set_0_atHL => exact .inl (setOperand_runs 0 .atHL 0xC6#8)
  | set_0_A => exact .inl (setOperand_runs 0 (.reg .a) 0xC7#8)
  | set_1_B => exact .inl (setOperand_runs 1 (.reg .b) 0xC8#8)
  | set_1_C => exact .inl (setOperand_runs 1 (.reg .c) 0xC9#8)
  | set_1_D => exact .inl (setOperand_runs 1 (.reg .d) 0xCA#8)
  | set_1_E => exact .inl (setOperand_runs 1 (.reg .e) 0xCB#8)
  | set_1_H => exact .inl (setOperand_runs 1 (.reg .h) 0xCC#8)
  | set_1_L => exact .inl (setOperand_runs 1 (.reg .l) 0xCD#8)
  | set_1_atHL => exact .inl (setOperand_runs 1 .atHL 0xCE#8)
  | set_1_A => exact .inl (setOperand_runs 1 (.reg .a) 0xCF#8)
  | set_2_B => exact .inl (setOperand_runs 2 (.reg .b) 0xD0#8)
  | set_2_C => exact .inl (setOperand_runs 2 (.reg .c) 0xD1#8)
  | set_2_D => exact .inl (setOperand_runs 2 (.reg .d) 0xD2#8)
  | set_2_E => exact .inl (setOperand_runs 2 (.reg .e) 0xD3#8)
  | set_2_H => exact .inl (setOperand_runs 2 (.reg .h) 0xD4#8)
  | set_2_L => exact .inl (setOperand_runs 2 (.reg .l) 0xD5#8)
  | set_2_atHL => exact .inl (setOperand_runs 2 .atHL 0xD6#8)
  | set_2_A => exact .inl (setOperand_runs 2 (.reg .a) 0xD7#8)
  | set_3_B => exact .inl (setOperand_runs 3 (.reg .b) 0xD8#8)
  | set_3_C => exact .inl (setOperand_runs 3 (.reg .c) 0xD9#8)
  | set_3_D => exact .inl (setOperand_runs 3 (.reg .d) 0xDA#8)
  | set_3_E => exact .inl (setOperand_runs 3 (.reg .e) 0xDB#8)
  | set_3_H => exact .inl (setOperand_runs 3 (.reg .h) 0xDC#8)
  | set_3_L => exact .inl (setOperand_runs 3 (.reg .l) 0xDD#8)
  | set_3_atHL => exact .inl (setOperand_runs 3 .atHL 0xDE#8)
  | set_3_A => exact .inl (setOperand_runs 3 (.reg .a) 0xDF#8)
  | set_4_B => exact .inl (setOperand_runs 4 (.reg .b) 0xE0#8)
  | set_4_C => exact .inl (setOperand_runs 4 (.reg .c) 0xE1#8)
  | set_4_D => exact .inl (setOperand_runs 4 (.reg .d) 0xE2#8)
  | set_4_E => exact .inl (setOperand_runs 4 (.reg .e) 0xE3#8)
  | set_4_H => exact .inl (setOperand_runs 4 (.reg .h) 0xE4#8)
  | set_4_L => exact .inl (setOperand_runs 4 (.reg .l) 0xE5#8)
  | set_4_atHL => exact .inl (setOperand_runs 4 .atHL 0xE6#8)
  | set_4_A => exact .inl (setOperand_runs 4 (.reg .a) 0xE7#8)
  | set_5_B => exact .inl (setOperand_runs 5 (.reg .b) 0xE8#8)
  | set_5_C => exact .inl (setOperand_runs 5 (.reg .c) 0xE9#8)
  | set_5_D => exact .inl (setOperand_runs 5 (.reg .d) 0xEA#8)
  | set_5_E => exact .inl (setOperand_runs 5 (.reg .e) 0xEB#8)
  | set_5_H => exact .inl (setOperand_runs 5 (.reg .h) 0xEC#8)
  | set_5_L => exact .inl (setOperand_runs 5 (.reg .l) 0xED#8)
  | set_5_atHL => exact .inl (setOperand_runs 5 .atHL 0xEE#8)
  | set_5_A => exact .inl (setOperand_runs 5 (.reg .a) 0xEF#8)
  | set_6_B => exact .inl (setOperand_runs 6 (.reg .b) 0xF0#8)
  | set_6_C => exact .inl (setOperand_runs 6 (.reg .c) 0xF1#8)
  | set_6_D => exact .inl (setOperand_runs 6 (.reg .d) 0xF2#8)
  | set_6_E => exact .inl (setOperand_runs 6 (.reg .e) 0xF3#8)
  | set_6_H => exact .inl (setOperand_runs 6 (.reg .h) 0xF4#8)
  | set_6_L => exact .inl (setOperand_runs 6 (.reg .l) 0xF5#8)
  | set_6_atHL => exact .inl (setOperand_runs 6 .atHL 0xF6#8)
  | set_6_A => exact .inl (setOperand_runs 6 (.reg .a) 0xF7#8)
  | set_7_B => exact .inl (setOperand_runs 7 (.reg .b) 0xF8#8)
  | set_7_C => exact .inl (setOperand_runs 7 (.reg .c) 0xF9#8)
  | set_7_D => exact .inl (setOperand_runs 7 (.reg .d) 0xFA#8)
  | set_7_E => exact .inl (setOperand_runs 7 (.reg .e) 0xFB#8)
  | set_7_H => exact .inl (setOperand_runs 7 (.reg .h) 0xFC#8)
  | set_7_L => exact .inl (setOperand_runs 7 (.reg .l) 0xFD#8)
  | set_7_atHL => exact .inl (setOperand_runs 7 .atHL 0xFE#8)
  | set_7_A => exact .inl (setOperand_runs 7 (.reg .a) 0xFF#8)

/-- The extended-table rule of a byte stands in that byte's slot. -/
theorem execExtended_runs (ext : Byte) : Runs .extended ext (execExtended ext) := by
  unfold execExtended
  dsimp only
  split
  · exact rotateOperand_runs _ _ _
  · exact bitOperand_runs _ _ _
  · exact resOperand_runs _ _ _
  · exact setOperand_runs _ _ _

/-- Reading the byte after the current one does not change what the address decoder lets through. -/
theorem fetch8_advance (s : State) :
    (s.advance 1).fetch8 =
      if s.canRead (s.pc + 1#16) then .ok (s.byteAt (s.pc + 1#16), (s.advance 1).advance 1)
      else .error ⟨.read, s.pc + 1#16, s.advance 1⟩ := by
  simp only [State.fetch8, State.memRead_eq]
  have h : (s.advance 1).canRead (s.advance 1).pc = s.canRead (s.pc + 1#16) := rfl
  rw [h]
  cases s.canRead (s.pc + 1#16) <;> rfl

/-- The 0xCB slot: the byte after it is read, and its extended-table rule is executed (41_dispatch R203). -/
theorem exec_cbPrefix (s : State) :
    exec .cbPrefix s =
      if s.canRead (s.pc + 1#16) then execExtended (s.byteAt (s.pc + 1#16)) s
      else raise (.unimplementedMemoryAccess .read (s.pc + 1#16) s.pc) (s.advance 1) := by
  show execCbPrefix s = _
  unfold execCbPrefix
  rw [fetch8_advance]
  cases s.canRead (s.pc + 1#16) <;> rfl

/-- A next state of a meaning that `Runs`. -/
theorem Runs.next {table : Table} {opcode : Byte} {f : State → Result} (h : Runs table opcode f) {s t : State}
    (hs : f s = .next t) :
    s.cfg.models table opcode = true ∧
      ∃ u taken n, Changes s u ∧ 4 ≤ n ∧ n ≤ 24 ∧ t = u.cyc table opcode taken n := by
  obtain ⟨n, op, ho, he⟩ := h
  rw [he] at hs
  obtain ⟨hm, hop⟩ := execSlot_next hs
  have hk := ho (s.advance n)
  rw [hop] at hk
  obtain ⟨u, taken, m, hc, h4, h24, rfl⟩ := hk
  exact ⟨hm, u, taken, m, (Changes.advance s n).trans hc, h4, h24, rfl⟩

/-- A next state of any instruction: what changed, and one cost of 4 to 24 by default, whatever the instruction. -/
theorem exec_next {i : Instr} {s t : State} (h : exec i s = .next t) :
    ∃ u table opcode taken n, Changes s u ∧ 4 ≤ n ∧ n ≤ 24 ∧ t = u.cyc table opcode taken n := by
  by_cases hw : i.wellFormed = true
  · rcases exec_slotFacts i hw with hr | ⟨_, hu⟩
    · obtain ⟨_, u, taken, n, hc⟩ := hr.next h
      exact ⟨u, _, _, taken, n, hc⟩
    · rw [hu] at h
      exact absurd h (raise_ne_next _ _ _)
  · have hi : i = .cbPrefix := by
      cases i <;> first | rfl | exact absurd rfl hw
    subst hi
    rw [exec_cbPrefix] at h
    split at h
    · obtain ⟨_, u, taken, n, hc⟩ := (execExtended_runs _).next h
      exact ⟨u, _, _, taken, n, hc⟩
    · exact absurd h (raise_ne_next _ _ _)

end Sys2Proof.Machine
end

