-- ==== Sys2Proof/Laws/Reset.lean ====
section
/-! SUPPORT. The memory that reset lays out has the canonical form, whatever the cartridge image. -/

namespace Sys2Proof.Machine

theorem cellsFrom_bounds (bytes : List Byte) :
    ∀ (a : Nat) (c : Host.Cell), c ∈ cellsFrom a bytes → a ≤ c.1 ∧ c.1 < a + bytes.length ∧ c.2 ≠ Memory.unlisted := by
  induction bytes with
  | nil => simp [cellsFrom]
  | cons b rest ih =>
    intro a c hc
    have later (h : c ∈ cellsFrom (a + 1) rest) :
        a ≤ c.1 ∧ c.1 < a + (b :: rest).length ∧ c.2 ≠ Memory.unlisted := by
      have := ih (a + 1) c h
      exact ⟨by omega, by rw [List.length_cons]; omega, this.2.2⟩
    unfold cellsFrom at hc
    split at hc
    · exact later hc
    · rename_i hb
      rcases List.mem_cons.mp hc with rfl | hc
      · exact ⟨Nat.le_refl _, by simp, hb⟩
      · exact later hc

theorem cellsFrom_rising (bytes : List Byte) :
    ∀ a : Nat, (cellsFrom a bytes).Pairwise fun c d => c.1 < d.1 := by
  induction bytes with
  | nil => simp [cellsFrom]
  | cons b rest ih =>
    intro a
    unfold cellsFrom
    split
    · exact ih _
    · exact List.pairwise_cons.mpr ⟨fun d hd => (cellsFrom_bounds rest _ d hd).1, ih _⟩

/-- A canonical list below an address, then one from that address on, is canonical. -/
theorem Memory.wf_append (m n : Memory) (k : Nat) (hm : Memory.wf m) (hn : Memory.wf n) (below : ∀ c ∈ m, c.1 < k)
    (above : ∀ d ∈ n, k ≤ d.1) : Memory.wf (m ++ n) := by
  refine ⟨List.pairwise_append.mpr ⟨hm.1, hn.1, fun c hc d hd => (below c hc).trans_le (above d hd)⟩, fun c hc => ?_⟩
  rcases List.mem_append.mp hc with h | h
  · exact hm.2 c h
  · exact hn.2 c h

theorem wf_cellsFrom (a : Nat) (bytes : List Byte) (h : a + bytes.length ≤ 65536) : Memory.wf (cellsFrom a bytes) :=
  ⟨cellsFrom_rising bytes a, fun c hc => by
    have := cellsFrom_bounds bytes a c hc
    exact ⟨by omega, this.2.2⟩⟩

theorem romCells_below (cart : List Byte) : ∀ c ∈ romCells cart, c.1 < 0x8000 := by
  intro c hc
  rcases List.mem_append.mp hc with h | h <;> have b := cellsFrom_bounds _ _ c h <;>
    rw [List.length_take] at b <;> omega

theorem wf_romCells (cart : List Byte) : Memory.wf (romCells cart) := by
  refine Memory.wf_append _ _ 0x4000 (wf_cellsFrom _ _ ?_) (wf_cellsFrom _ _ ?_) (fun c hc => ?_)
    fun d hd => (cellsFrom_bounds _ _ d hd).1
  · rw [List.length_take]; omega
  · rw [List.length_take]; omega
  · have b := cellsFrom_bounds _ _ c hc
    rw [List.length_take] at b
    omega

/-- M after reset has the canonical form when RAM_INIT has. -/
theorem wf_resetMemory (lyAddr : Addr) (cart : List Byte) (ramInit : Memory) (h : Memory.wf ramInit) :
    Memory.wf (resetMemory lyAddr cart ramInit) := by
  refine Memory.wf_write _ _ _ (Memory.wf_append _ _ 0x8000 (wf_romCells cart) (Memory.wf_filter _ _ h)
    (romCells_below cart) fun d hd => ?_) (BitVec.isLt _)
  have p := (List.mem_filter.mp hd).2
  simp only [Bool.and_eq_true, decide_eq_true_eq] at p
  exact p.1

/-- The memory of the state after reset has the canonical form. -/
theorem reset_mem_wf : Memory.wf State.reset.mem := wf_resetMemory _ _ _ (by simp [Memory.wf])

end Sys2Proof.Machine
end

