-- ==== Sys2Proof/Tests/Slice0.lean ====
section
/-! SUPPORT. Tests: the WellFormed check, the opcode maps of 30_encoding R128 and R129 row by row, single steps with the
results of 95_test_vectors, and for every obligation with hypotheses a witness that meets them. -/

namespace Sys2Proof.Tests

open Sys2Proof.Machine

/-! ## Helpers -/

/-- After the boot overlay, at work RAM, with every slot modeled that a profile may model. -/
def home : State :=
  { State.reset with bootEnabled := false, pc := 0xC000#16, cfg := { Config.default with removedPrimary := [] } }

/-- The same with the default profile, as the vectors of 95_test_vectors have it. -/
def plain : State := { home with cfg := Config.default }

/-- A byte put in M from outside. -/
def poke (s : State) (a : Nat) (v : Byte) : State := { s with mem := Memory.write s.mem a v }

/-- HL as given. -/
def withHL (s : State) (v : Addr) : State := s.setReg16 .hl v

/-- One step with the bytes at PC. -/
def run (bytes : List Byte) (s : State) : Result := step (s.plantBytes s.pc bytes)

/-- What a next state shows. -/
def seen {α : Type} (r : Result) (f : State → α) : Option α :=
  match r with
  | .next t => some (f t)
  | _ => none

/-- The record of a fatal error. -/
def stopOf (r : Result) : Option FatalError :=
  match r with
  | .fault (.unimplementedOpcode _ _ _ t) => t.fault
  | .fault (.unimplementedMemoryAccess _ _ _ t) => t.fault
  | _ => none

/-- The instruction answers a next state. -/
def completes (r : Result) : Bool :=
  match r with
  | .next _ => true
  | _ => false

/-- The sixteen primary slots from a byte on, each with the operand bytes 0x34 and 0x12 after it. -/
def primaryRow (first : Nat) : List Instr :=
  (List.range 16).filterMap fun n =>
    match decode [BitVec.ofNat 8 (first + n), 0x34#8, 0x12#8] with
    | .ok (i, _) => some i
    | .error _ => none

/-- The sixteen extended slots from a byte on. -/
def extendedRow (first : Nat) : List Instr :=
  (List.range 16).filterMap fun n =>
    match decode [0xCB#8, BitVec.ofNat 8 (first + n)] with
    | .ok (i, []) => some i
    | _ => none

/-! ## The one ill-formed term -/

theorem test_illformed_cb_alone : Instr.wellFormed .cbPrefix = false := by decide

theorem test_wellformed_unimplemented : Instr.wellFormed .unimpl_D3 = true := by decide

/-! ## The maps: 30_encoding R128 (the slot 0xCB shown with the byte 0x34 after it) and R129 -/

theorem test_map_0x : primaryRow 0x00 =
    [.nop, .ld_BC_n16 0x1234#16, .ld_atBC_A, .inc_BC, .inc_B, .dec_B, .ld_B_n8 0x34#8, .rlca,
     .ld_atN16_SP 0x1234#16, .add_HL_BC, .ld_A_atBC, .dec_BC, .inc_C, .dec_C, .ld_C_n8 0x34#8, .rrca] := rfl

theorem test_map_1x : primaryRow 0x10 =
    [.stop, .ld_DE_n16 0x1234#16, .ld_atDE_A, .inc_DE, .inc_D, .dec_D, .ld_D_n8 0x34#8, .rla, .jr_e8 0x34#8,
     .add_HL_DE, .ld_A_atDE, .dec_DE, .inc_E, .dec_E, .ld_E_n8 0x34#8, .rra] := rfl

theorem test_map_2x : primaryRow 0x20 =
    [.jr_NZ_e8 0x34#8, .ld_HL_n16 0x1234#16, .ld_atHLI_A, .inc_HL, .inc_H, .dec_H, .ld_H_n8 0x34#8, .daa,
     .jr_Z_e8 0x34#8, .add_HL_HL, .ld_A_atHLI, .dec_HL, .inc_L, .dec_L, .ld_L_n8 0x34#8, .cpl] := rfl

theorem test_map_3x : primaryRow 0x30 =
    [.jr_NC_e8 0x34#8, .ld_SP_n16 0x1234#16, .ld_atHLD_A, .inc_SP, .inc_atHL, .dec_atHL, .ld_atHL_n8 0x34#8,
     .scf, .jr_C_e8 0x34#8, .add_HL_SP, .ld_A_atHLD, .dec_SP, .inc_A, .dec_A, .ld_A_n8 0x34#8, .ccf] := rfl

theorem test_map_4x : primaryRow 0x40 =
    [.ld_B_B, .ld_B_C, .ld_B_D, .ld_B_E, .ld_B_H, .ld_B_L, .ld_B_atHL, .ld_B_A, .ld_C_B, .ld_C_C, .ld_C_D,
     .ld_C_E, .ld_C_H, .ld_C_L, .ld_C_atHL, .ld_C_A] := rfl

theorem test_map_5x : primaryRow 0x50 =
    [.ld_D_B, .ld_D_C, .ld_D_D, .ld_D_E, .ld_D_H, .ld_D_L, .ld_D_atHL, .ld_D_A, .ld_E_B, .ld_E_C, .ld_E_D,
     .ld_E_E, .ld_E_H, .ld_E_L, .ld_E_atHL, .ld_E_A] := rfl

theorem test_map_6x : primaryRow 0x60 =
    [.ld_H_B, .ld_H_C, .ld_H_D, .ld_H_E, .ld_H_H, .ld_H_L, .ld_H_atHL, .ld_H_A, .ld_L_B, .ld_L_C, .ld_L_D,
     .ld_L_E, .ld_L_H, .ld_L_L, .ld_L_atHL, .ld_L_A] := rfl

theorem test_map_7x : primaryRow 0x70 =
    [.ld_atHL_B, .ld_atHL_C, .ld_atHL_D, .ld_atHL_E, .ld_atHL_H, .ld_atHL_L, .halt, .ld_atHL_A, .ld_A_B,
     .ld_A_C, .ld_A_D, .ld_A_E, .ld_A_H, .ld_A_L, .ld_A_atHL, .ld_A_A] := rfl

theorem test_map_8x : primaryRow 0x80 =
    [.add_B, .add_C, .add_D, .add_E, .add_H, .add_L, .add_atHL, .add_A, .adc_B, .adc_C, .adc_D, .adc_E,
     .adc_H, .adc_L, .adc_atHL, .adc_A] := rfl

theorem test_map_9x : primaryRow 0x90 =
    [.sub_B, .sub_C, .sub_D, .sub_E, .sub_H, .sub_L, .sub_atHL, .sub_A, .sbc_B, .sbc_C, .sbc_D, .sbc_E,
     .sbc_H, .sbc_L, .sbc_atHL, .sbc_A] := rfl

theorem test_map_Ax : primaryRow 0xA0 =
    [.and_B, .and_C, .and_D, .and_E, .and_H, .and_L, .and_atHL, .and_A, .xor_B, .xor_C, .xor_D, .xor_E,
     .xor_H, .xor_L, .xor_atHL, .xor_A] := rfl

theorem test_map_Bx : primaryRow 0xB0 =
    [.or_B, .or_C, .or_D, .or_E, .or_H, .or_L, .or_atHL, .or_A, .cp_B, .cp_C, .cp_D, .cp_E, .cp_H, .cp_L,
     .cp_atHL, .cp_A] := rfl

theorem test_map_Cx : primaryRow 0xC0 =
    [.ret_NZ, .pop_BC, .jp_NZ_n16 0x1234#16, .jp_n16 0x1234#16, .call_NZ_n16 0x1234#16, .push_BC,
     .add_n8 0x34#8, .rst_00, .ret_Z, .ret, .jp_Z_n16 0x1234#16, .swap_H, .call_Z_n16 0x1234#16,
     .call_n16 0x1234#16, .adc_n8 0x34#8, .rst_08] := rfl

theorem test_map_Dx : primaryRow 0xD0 =
    [.ret_NC, .pop_DE, .jp_NC_n16 0x1234#16, .unimpl_D3, .call_NC_n16 0x1234#16, .push_DE, .sub_n8 0x34#8,
     .rst_10, .ret_C, .reti, .jp_C_n16 0x1234#16, .unimpl_DB, .call_C_n16 0x1234#16, .unimpl_DD,
     .sbc_n8 0x34#8, .rst_18] := rfl

theorem test_map_Ex : primaryRow 0xE0 =
    [.ldh_atN8_A 0x34#8, .pop_HL, .ld_atC_A, .unimpl_E3, .unimpl_E4, .push_HL, .and_n8 0x34#8, .rst_20,
     .add_SP_e8 0x34#8, .jp_HL, .ld_atN16_A 0x1234#16, .unimpl_EB, .unimpl_EC, .unimpl_ED, .xor_n8 0x34#8,
     .rst_28] := rfl

theorem test_map_Fx : primaryRow 0xF0 =
    [.ldh_A_atN8 0x34#8, .pop_AF, .ld_A_atC, .di, .unimpl_F4, .push_AF, .or_n8 0x34#8, .rst_30,
     .ld_HL_SPe8 0x34#8, .ld_SP_HL, .ld_A_atN16 0x1234#16, .ei, .unimpl_FC, .unimpl_FD, .cp_n8 0x34#8, .rst_38] := rfl

theorem test_extended_map_0x : extendedRow 0x00 =
    [.rlc_B, .rlc_C, .rlc_D, .rlc_E, .rlc_H, .rlc_L, .rlc_atHL, .rlc_A, .rrc_B, .rrc_C, .rrc_D, .rrc_E,
     .rrc_H, .rrc_L, .rrc_atHL, .rrc_A] := rfl

theorem test_extended_map_1x : extendedRow 0x10 =
    [.rl_B, .rl_C, .rl_D, .rl_E, .rl_H, .rl_L, .rl_atHL, .rl_A, .rr_B, .rr_C, .rr_D, .rr_E, .rr_H, .rr_L,
     .rr_atHL, .rr_A] := rfl

theorem test_extended_map_2x : extendedRow 0x20 =
    [.sla_B, .sla_C, .sla_D, .sla_E, .sla_H, .sla_L, .sla_atHL, .sla_A, .sra_B, .sra_C, .sra_D, .sra_E,
     .sra_H, .sra_L, .sra_atHL, .sra_A] := rfl

theorem test_extended_map_3x : extendedRow 0x30 =
    [.swap_B, .swap_C, .swap_D, .swap_E, .swap_H, .swap_L, .swap_atHL, .swap_A, .srl_B, .srl_C, .srl_D,
     .srl_E, .srl_H, .srl_L, .srl_atHL, .srl_A] := rfl

theorem test_extended_map_4x : extendedRow 0x40 =
    [.bit_0_B, .bit_0_C, .bit_0_D, .bit_0_E, .bit_0_H, .bit_0_L, .bit_0_atHL, .bit_0_A, .bit_1_B, .bit_1_C,
     .bit_1_D, .bit_1_E, .bit_1_H, .bit_1_L, .bit_1_atHL, .bit_1_A] := rfl

theorem test_extended_map_5x : extendedRow 0x50 =
    [.bit_2_B, .bit_2_C, .bit_2_D, .bit_2_E, .bit_2_H, .bit_2_L, .bit_2_atHL, .bit_2_A, .bit_3_B, .bit_3_C,
     .bit_3_D, .bit_3_E, .bit_3_H, .bit_3_L, .bit_3_atHL, .bit_3_A] := rfl

theorem test_extended_map_6x : extendedRow 0x60 =
    [.bit_4_B, .bit_4_C, .bit_4_D, .bit_4_E, .bit_4_H, .bit_4_L, .bit_4_atHL, .bit_4_A, .bit_5_B, .bit_5_C,
     .bit_5_D, .bit_5_E, .bit_5_H, .bit_5_L, .bit_5_atHL, .bit_5_A] := rfl

theorem test_extended_map_7x : extendedRow 0x70 =
    [.bit_6_B, .bit_6_C, .bit_6_D, .bit_6_E, .bit_6_H, .bit_6_L, .bit_6_atHL, .bit_6_A, .bit_7_B, .bit_7_C,
     .bit_7_D, .bit_7_E, .bit_7_H, .bit_7_L, .bit_7_atHL, .bit_7_A] := rfl

theorem test_extended_map_8x : extendedRow 0x80 =
    [.res_0_B, .res_0_C, .res_0_D, .res_0_E, .res_0_H, .res_0_L, .res_0_atHL, .res_0_A, .res_1_B, .res_1_C,
     .res_1_D, .res_1_E, .res_1_H, .res_1_L, .res_1_atHL, .res_1_A] := rfl

theorem test_extended_map_9x : extendedRow 0x90 =
    [.res_2_B, .res_2_C, .res_2_D, .res_2_E, .res_2_H, .res_2_L, .res_2_atHL, .res_2_A, .res_3_B, .res_3_C,
     .res_3_D, .res_3_E, .res_3_H, .res_3_L, .res_3_atHL, .res_3_A] := rfl

theorem test_extended_map_Ax : extendedRow 0xA0 =
    [.res_4_B, .res_4_C, .res_4_D, .res_4_E, .res_4_H, .res_4_L, .res_4_atHL, .res_4_A, .res_5_B, .res_5_C,
     .res_5_D, .res_5_E, .res_5_H, .res_5_L, .res_5_atHL, .res_5_A] := rfl

theorem test_extended_map_Bx : extendedRow 0xB0 =
    [.res_6_B, .res_6_C, .res_6_D, .res_6_E, .res_6_H, .res_6_L, .res_6_atHL, .res_6_A, .res_7_B, .res_7_C,
     .res_7_D, .res_7_E, .res_7_H, .res_7_L, .res_7_atHL, .res_7_A] := rfl

theorem test_extended_map_Cx : extendedRow 0xC0 =
    [.set_0_B, .set_0_C, .set_0_D, .set_0_E, .set_0_H, .set_0_L, .set_0_atHL, .set_0_A, .set_1_B, .set_1_C,
     .set_1_D, .set_1_E, .set_1_H, .set_1_L, .set_1_atHL, .set_1_A] := rfl

theorem test_extended_map_Dx : extendedRow 0xD0 =
    [.set_2_B, .set_2_C, .set_2_D, .set_2_E, .set_2_H, .set_2_L, .set_2_atHL, .set_2_A, .set_3_B, .set_3_C,
     .set_3_D, .set_3_E, .set_3_H, .set_3_L, .set_3_atHL, .set_3_A] := rfl

theorem test_extended_map_Ex : extendedRow 0xE0 =
    [.set_4_B, .set_4_C, .set_4_D, .set_4_E, .set_4_H, .set_4_L, .set_4_atHL, .set_4_A, .set_5_B, .set_5_C,
     .set_5_D, .set_5_E, .set_5_H, .set_5_L, .set_5_atHL, .set_5_A] := rfl

theorem test_extended_map_Fx : extendedRow 0xF0 =
    [.set_6_B, .set_6_C, .set_6_D, .set_6_E, .set_6_H, .set_6_L, .set_6_atHL, .set_6_A, .set_7_B, .set_7_C,
     .set_7_D, .set_7_E, .set_7_H, .set_7_L, .set_7_atHL, .set_7_A] := rfl

/-! ## Single steps: expected results from 95_test_vectors, section and id named -/

/-- 95_test_vectors 2.1 (S2). -/
theorem test_add_half_carry :
    seen (run [0x80#8] { plain with a := 0x0F#8, f := 0x00#8, b := 0x01#8 })
    (fun t => (t.a, t.f, t.pc, t.instrCycles)) = some (0x10#8, 0x20#8, 0xC001#16, 4) := by decide

/-- 95_test_vectors 2.1. -/
theorem test_add_ignores_carry_in :
    seen (run [0x80#8] { plain with a := 0x3A#8, f := 0x10#8, b := 0xC6#8 })
    (fun t => (t.a, t.f, t.pc, t.instrCycles)) = some (0x00#8, 0xB0#8, 0xC001#16, 4) := by decide

/-- 95_test_vectors 2.1 (S12). -/
theorem test_adc_half_carry_from_raw_operand :
    seen (run [0x88#8] { plain with a := 0x0F#8, f := 0x10#8, b := 0x00#8 })
    (fun t => (t.a, t.f, t.pc, t.instrCycles)) = some (0x10#8, 0x00#8, 0xC001#16, 4) := by decide

/-- 95_test_vectors 2.1 (D7). -/
theorem test_adc_adds_256 :
    seen (run [0x88#8] { plain with a := 0x42#8, f := 0x10#8, b := 0xFF#8 })
    (fun t => (t.a, t.f, t.pc, t.instrCycles)) = some (0x42#8, 0x30#8, 0xC001#16, 4) := by decide

/-- 95_test_vectors 2.1 (S5). -/
theorem test_sub_borrow :
    seen (run [0x90#8] { plain with a := 0x00#8, f := 0x00#8, b := 0x01#8 })
    (fun t => (t.a, t.f, t.pc, t.instrCycles)) = some (0xFF#8, 0x70#8, 0xC001#16, 4) := by decide

/-- 95_test_vectors 2.1. -/
theorem test_sub_ignores_carry_in :
    seen (run [0x90#8] { plain with a := 0x80#8, f := 0x10#8, b := 0xFF#8 })
    (fun t => (t.a, t.f, t.pc, t.instrCycles)) = some (0x81#8, 0x70#8, 0xC001#16, 4) := by decide

/-- 95_test_vectors 2.1. -/
theorem test_sbc_full_borrow :
    seen (run [0x98#8] { plain with a := 0x00#8, f := 0x10#8, b := 0xFF#8 })
    (fun t => (t.a, t.f, t.pc, t.instrCycles)) = some (0x00#8, 0xF0#8, 0xC001#16, 4) := by decide

/-- 95_test_vectors 2.1 (S4). -/
theorem test_cp_keeps_a :
    seen (run [0xB8#8] { plain with a := 0x10#8, f := 0x00#8, b := 0x10#8 })
    (fun t => (t.a, t.f, t.pc, t.instrCycles)) = some (0x10#8, 0xC0#8, 0xC001#16, 4) := by decide

/-- 95_test_vectors 2.1. -/
theorem test_and_sets_h :
    seen (run [0xA0#8] { plain with a := 0x5A#8, f := 0x10#8, b := 0x3F#8 })
    (fun t => (t.a, t.f, t.pc, t.instrCycles)) = some (0x1A#8, 0x20#8, 0xC001#16, 4) := by decide

/-- 95_test_vectors 2.1. -/
theorem test_xor_clears :
    seen (run [0xA8#8] { plain with a := 0xFF#8, f := 0x70#8, b := 0xFF#8 })
    (fun t => (t.a, t.f, t.pc, t.instrCycles)) = some (0x00#8, 0x80#8, 0xC001#16, 4) := by decide

/-- 95_test_vectors 2.1. -/
theorem test_or_joins :
    seen (run [0xB0#8] { plain with a := 0x50#8, f := 0x10#8, b := 0x0A#8 })
    (fun t => (t.a, t.f, t.pc, t.instrCycles)) = some (0x5A#8, 0x00#8, 0xC001#16, 4) := by decide

/-- 95_test_vectors 2.1. -/
theorem test_add_at_hl :
    seen (run [0x86#8] (poke (withHL { plain with a := 0x3C#8 } 0xD000#16) 0xD000 0x12#8))
    (fun t => (t.a, t.f, t.pc, t.instrCycles)) = some (0x4E#8, 0x00#8, 0xC001#16, 8) := by decide

/-- 95_test_vectors 2.1. -/
theorem test_cp_immediate :
    seen (run [0xFE#8, 0x90#8] { plain with a := 0x90#8 })
    (fun t => (t.a, t.f, t.pc, t.instrCycles)) = some (0x90#8, 0xC0#8, 0xC002#16, 8) := by decide

/-- 95_test_vectors 2.1. -/
theorem test_inc_wraps :
    seen (run [0x04#8] { plain with b := 0xFF#8, f := 0x00#8 })
    (fun t => (t.b, t.f, t.instrCycles)) = some (0x00#8, 0xA0#8, 4) := by decide

/-- 95_test_vectors 2.1. -/
theorem test_inc_wraps_literal :
    seen (run [0x04#8] { plain with b := 0xFF#8, f := 0x00#8, cfg := { Config.default with incDecHMode := .literal } })
    (fun t => (t.b, t.f, t.instrCycles)) = some (0x00#8, 0x80#8, 4) := by decide

/-- 95_test_vectors 2.1. -/
theorem test_dec_from_0x10 :
    seen (run [0x05#8] { plain with b := 0x10#8, f := 0x10#8 })
    (fun t => (t.b, t.f, t.instrCycles)) = some (0x0F#8, 0x70#8, 4) := by decide

/-- 95_test_vectors 2.1. -/
theorem test_dec_from_0x20_literal :
    seen (run [0x05#8] { plain with b := 0x20#8, f := 0x00#8, cfg := { Config.default with incDecHMode := .literal } })
    (fun t => (t.b, t.f, t.instrCycles)) = some (0x1F#8, 0x40#8, 4) := by decide

/-- 95_test_vectors 2.1. -/
theorem test_inc_at_hl :
    seen (run [0x34#8] (poke (withHL { plain with f := 0x10#8 } 0xD000#16) 0xD000 0xFF#8))
    (fun t => (t.cell 0xD000#16, t.f, t.instrCycles)) = some (0x00#8, 0xB0#8, 12) := by decide

/-- 95_test_vectors 2.1. -/
theorem test_dec_at_hl :
    seen (run [0x35#8] (poke (withHL plain 0xD000#16) 0xD000 0x01#8))
    (fun t => (t.cell 0xD000#16, t.f, t.instrCycles)) = some (0x00#8, 0xC0#8, 12) := by decide

/-- 95_test_vectors 2.1. -/
theorem test_daa_after_subtraction :
    seen (run [0x27#8] { plain with a := 0x00#8, f := 0x70#8, b := 0x00#8 })
    (fun t => (t.a, t.f, t.pc, t.instrCycles)) = some (0x9A#8, 0x50#8, 0xC001#16, 4) := by decide

/-- 95_test_vectors 2.1. -/
theorem test_daa_both_corrections :
    seen (run [0x27#8] { plain with a := 0x9A#8, f := 0x00#8, b := 0x00#8 })
    (fun t => (t.a, t.f, t.pc, t.instrCycles)) = some (0x00#8, 0x90#8, 0xC001#16, 4) := by decide

/-- 95_test_vectors 2.1. -/
theorem test_cpl :
    seen (run [0x2F#8] { plain with a := 0x35#8, f := 0x80#8, b := 0x00#8 })
    (fun t => (t.a, t.f, t.pc, t.instrCycles)) = some (0xCA#8, 0xE0#8, 0xC001#16, 4) := by decide

/-- 95_test_vectors 2.1. -/
theorem test_scf :
    seen (run [0x37#8] { plain with a := 0x00#8, f := 0xE0#8, b := 0x00#8 })
    (fun t => (t.a, t.f, t.pc, t.instrCycles)) = some (0x00#8, 0x90#8, 0xC001#16, 4) := by decide

/-- 95_test_vectors 2.1. -/
theorem test_ccf :
    seen (run [0x3F#8] { plain with a := 0x00#8, f := 0xF0#8, b := 0x00#8 })
    (fun t => (t.a, t.f, t.pc, t.instrCycles)) = some (0x00#8, 0x80#8, 0xC001#16, 4) := by decide

/-- 95_test_vectors 2.2. -/
theorem test_rlca_clears_z :
    seen (run [0x07#8] { plain with a := 0x00#8, f := 0xF0#8, b := 0x00#8 })
    (fun t => (t.a, t.f, t.pc, t.instrCycles)) = some (0x00#8, 0x00#8, 0xC001#16, 4) := by decide

/-- 95_test_vectors 2.2. -/
theorem test_rrca :
    seen (run [0x0F#8] { plain with a := 0x3B#8, f := 0x00#8, b := 0x00#8 })
    (fun t => (t.a, t.f, t.pc, t.instrCycles)) = some (0x9D#8, 0x10#8, 0xC001#16, 4) := by decide

/-- 95_test_vectors 2.2. -/
theorem test_rla :
    seen (run [0x17#8] { plain with a := 0x95#8, f := 0x10#8, b := 0x00#8 })
    (fun t => (t.a, t.f, t.pc, t.instrCycles)) = some (0x2B#8, 0x10#8, 0xC001#16, 4) := by decide

/-- 95_test_vectors 2.2. -/
theorem test_rra :
    seen (run [0x1F#8] { plain with a := 0x01#8, f := 0x10#8, b := 0x00#8 })
    (fun t => (t.a, t.f, t.pc, t.instrCycles)) = some (0x80#8, 0x10#8, 0xC001#16, 4) := by decide

/-- 95_test_vectors 2.2. -/
theorem test_rlc :
    seen (run [0xCB#8, 0x00#8] { plain with b := 0x85#8, f := 0x00#8 })
    (fun t => (t.b, t.f, t.pc, t.instrCycles)) = some (0x0B#8, 0x10#8, 0xC002#16, 8) := by decide

/-- 95_test_vectors 2.2. -/
theorem test_rrc :
    seen (run [0xCB#8, 0x08#8] { plain with b := 0x01#8, f := 0x00#8 })
    (fun t => (t.b, t.f, t.pc, t.instrCycles)) = some (0x80#8, 0x10#8, 0xC002#16, 8) := by decide

/-- 95_test_vectors 2.2. -/
theorem test_rl :
    seen (run [0xCB#8, 0x10#8] { plain with b := 0x00#8, f := 0x10#8 })
    (fun t => (t.b, t.f, t.pc, t.instrCycles)) = some (0x01#8, 0x00#8, 0xC002#16, 8) := by decide

/-- 95_test_vectors 2.2. -/
theorem test_rr :
    seen (run [0xCB#8, 0x18#8] { plain with b := 0x01#8, f := 0x00#8 })
    (fun t => (t.b, t.f, t.pc, t.instrCycles)) = some (0x00#8, 0x90#8, 0xC002#16, 8) := by decide

/-- 95_test_vectors 2.2. -/
theorem test_sla :
    seen (run [0xCB#8, 0x20#8] { plain with b := 0xFF#8, f := 0x00#8 })
    (fun t => (t.b, t.f, t.pc, t.instrCycles)) = some (0xFE#8, 0x10#8, 0xC002#16, 8) := by decide

/-- 95_test_vectors 2.2. -/
theorem test_sra :
    seen (run [0xCB#8, 0x28#8] { plain with b := 0x8A#8, f := 0x00#8 })
    (fun t => (t.b, t.f, t.pc, t.instrCycles)) = some (0xC5#8, 0x00#8, 0xC002#16, 8) := by decide

/-- 95_test_vectors 2.2. -/
theorem test_swap :
    seen (run [0xCB#8, 0x30#8] { plain with b := 0xF1#8, f := 0x10#8 })
    (fun t => (t.b, t.f, t.pc, t.instrCycles)) = some (0x1F#8, 0x00#8, 0xC002#16, 8) := by decide

/-- 95_test_vectors 2.2. -/
theorem test_srl :
    seen (run [0xCB#8, 0x38#8] { plain with b := 0xFF#8, f := 0x00#8 })
    (fun t => (t.b, t.f, t.pc, t.instrCycles)) = some (0x7F#8, 0x10#8, 0xC002#16, 8) := by decide

/-- 95_test_vectors 2.2. -/
theorem test_bit_0 :
    seen (run [0xCB#8, 0x40#8] { plain with b := 0xFE#8, f := 0x10#8 })
    (fun t => (t.b, t.f, t.pc, t.instrCycles)) = some (0xFE#8, 0xB0#8, 0xC002#16, 8) := by decide

/-- 95_test_vectors 2.2. -/
theorem test_bit_7 :
    seen (run [0xCB#8, 0x78#8] { plain with b := 0x80#8, f := 0xC0#8 })
    (fun t => (t.b, t.f, t.pc, t.instrCycles)) = some (0x80#8, 0x20#8, 0xC002#16, 8) := by decide

/-- 95_test_vectors 2.2. -/
theorem test_res_0 :
    seen (run [0xCB#8, 0x80#8] { plain with b := 0xFF#8, f := 0xF0#8 })
    (fun t => (t.b, t.f, t.pc, t.instrCycles)) = some (0xFE#8, 0xF0#8, 0xC002#16, 8) := by decide

/-- 95_test_vectors 2.2. -/
theorem test_set_7 :
    seen (run [0xCB#8, 0xF8#8] { plain with b := 0x00#8, f := 0x00#8 })
    (fun t => (t.b, t.f, t.pc, t.instrCycles)) = some (0x80#8, 0x00#8, 0xC002#16, 8) := by decide

/-- 95_test_vectors 2.2. -/
theorem test_rlc_at_hl :
    seen (run [0xCB#8, 0x06#8] (poke (withHL { plain with f := 0x00#8 } 0xD000#16) 0xD000 0x85#8))
    (fun t => (t.cell 0xD000#16, t.f, t.instrCycles)) = some (0x0B#8, 0x10#8, 16) := by decide

/-- 95_test_vectors 2.2. -/
theorem test_bit_7_at_hl :
    seen (run [0xCB#8, 0x7E#8] (poke (withHL { plain with f := 0x00#8 } 0xD000#16) 0xD000 0x7F#8))
    (fun t => (t.cell 0xD000#16, t.f, t.instrCycles)) = some (0x7F#8, 0xA0#8, 12) := by decide

/-- 95_test_vectors 2.2. -/
theorem test_res_3_at_hl :
    seen (run [0xCB#8, 0x9E#8] (poke (withHL { plain with f := 0x00#8 } 0xD000#16) 0xD000 0xFF#8))
    (fun t => (t.cell 0xD000#16, t.f, t.instrCycles)) = some (0xF7#8, 0x00#8, 16) := by decide

/-- 95_test_vectors 2.2. -/
theorem test_set_7_at_hl :
    seen (run [0xCB#8, 0xFE#8] (poke (withHL { plain with f := 0x00#8 } 0xD000#16) 0xD000 0x00#8))
    (fun t => (t.cell 0xD000#16, t.f, t.instrCycles)) = some (0x80#8, 0x00#8, 16) := by decide

/-- 95_test_vectors 2.2 (R203). -/
theorem test_second_cb_is_set_1_e :
    seen (run [0xCB#8, 0xCB#8] plain) (fun t => (t.e, t.pc, t.instrCycles)) = some (0x02#8, 0xC002#16, 8) := by decide

/-- 95_test_vectors 2.3. -/
theorem test_ld_b_c :
    seen (run [0x41#8] { plain with c := 0x5A#8, f := 0xF0#8 })
    (fun t => (t.b, t.c, t.f, t.instrCycles)) = some (0x5A#8, 0x5A#8, 0xF0#8, 4) := by decide

/-- 95_test_vectors 2.3. -/
theorem test_ld_a_at_hl :
    seen (run [0x7E#8] (poke (withHL plain 0xD123#16) 0xD123 0x9C#8))
    (fun t => (t.a, t.instrCycles)) = some (0x9C#8, 8) := by decide

/-- 95_test_vectors 2.3. -/
theorem test_ld_at_hl_h :
    seen (run [0x74#8] (withHL plain 0xD123#16))
    (fun t => (t.cell 0xD123#16, t.instrCycles)) = some (0xD1#8, 8) := by decide

/-- 95_test_vectors 2.3. -/
theorem test_ld_d_n8 :
    seen (run [0x16#8, 0xAB#8] plain) (fun t => (t.d, t.pc, t.instrCycles)) = some (0xAB#8, 0xC002#16, 8) := by decide

/-- 95_test_vectors 2.3. -/
theorem test_ld_at_hl_n8_tiles :
    seen (run [0x36#8, 0x81#8] (withHL plain 0x8010#16))
    (fun t => (t.output, t.cell 0x8010#16, t.instrCycles)) = some 
    ([1, 0, 0, 0, 0, 0, 0, 1].zipIdx.map fun p => Event.tile 1#9 0#3 (BitVec.ofNat 3 p.2) (BitVec.ofNat 2 p.1), 0x81#8, 12) :=
  by decide

/-- 95_test_vectors 2.3. -/
theorem test_store_to_rom : stopOf (run [0x36#8, 0x81#8] (withHL plain 0x4000#16)) =
    some (.unimplementedMemoryAccess (.write 0x81#8) 0x4000#16 0xC000#16) := by decide

/-- 95_test_vectors 2.3. -/
theorem test_ld_at_bc_a :
    seen (run [0x02#8] ({ plain with a := 0x42#8 }.setReg16 .bc 0xC010#16))
    (fun t => (t.cell 0xC010#16, t.instrCycles)) = some (0x42#8, 8) := by decide

/-- 95_test_vectors 2.3. -/
theorem test_ld_a_at_de :
    seen (run [0x1A#8] (poke (plain.setReg16 .de 0xC011#16) 0xC011 0x22#8))
    (fun t => (t.a, t.instrCycles)) = some (0x22#8, 8) := by decide

/-- 95_test_vectors 2.3 (D10). -/
theorem test_store_increment_wraps :
    seen (run [0x22#8] (withHL { plain with a := 0x1F#8 } 0xFFFF#16))
    (fun t => (t.cell 0xFFFF#16, t.hl, t.instrCycles)) = some (0x1F#8, 0x0000#16, 8) := by decide

/-- 95_test_vectors 2.3. -/
theorem test_store_decrement :
    seen (run [0x32#8] (withHL { plain with a := 0x66#8 } 0xC100#16))
    (fun t => (t.cell 0xC100#16, t.hl, t.instrCycles)) = some (0x66#8, 0xC0FF#16, 8) := by decide

/-- 95_test_vectors 2.3. -/
theorem test_load_increment :
    seen (run [0x2A#8] (poke (withHL plain 0xC1FF#16) 0xC1FF 0x56#8))
    (fun t => (t.a, t.hl, t.instrCycles)) = some (0x56#8, 0xC200#16, 8) := by decide

/-- 95_test_vectors 2.3. -/
theorem test_load_decrement :
    seen (run [0x3A#8] (poke (withHL plain 0x8000#16) 0x8000 0x3C#8))
    (fun t => (t.a, t.hl, t.output, t.instrCycles)) = some (0x3C#8, 0x7FFF#16, [], 8) := by decide

/-- 95_test_vectors 2.3. -/
theorem test_ldh_store :
    seen (run [0xE0#8, 0x47#8] { plain with a := 0xE4#8 })
    (fun t => (t.cell 0xFF47#16, t.pc, t.instrCycles)) = some (0xE4#8, 0xC002#16, 12) := by decide

/-- 95_test_vectors 2.3. -/
theorem test_ldh_store_row_counter : stopOf (run [0xE0#8, 0x44#8] { plain with a := 0x30#8 }) =
    some (.unimplementedMemoryAccess (.write 0x30#8) 0xFF44#16 0xC000#16) := by decide

/-- 95_test_vectors 2.3. -/
theorem test_ldh_load :
    seen (run [0xF0#8, 0x42#8] (poke plain 0xFF42 0x12#8))
    (fun t => (t.a, t.pc, t.instrCycles)) = some (0x12#8, 0xC002#16, 12) := by decide

/-- 95_test_vectors 2.3. -/
theorem test_ldh_load_write_only : stopOf (run [0xF0#8, 0x40#8] plain) =
    some (.unimplementedMemoryAccess .read 0xFF40#16 0xC000#16) := by decide

/-- 95_test_vectors 2.3. -/
theorem test_ld_at_c_a :
    seen (run [0xE2#8] { plain with c := 0x42#8, a := 0x08#8 })
    (fun t => (t.cell 0xFF42#16, t.instrCycles)) = some (0x08#8, 8) := by decide

/-- 95_test_vectors 2.3. -/
theorem test_ld_a_at_c :
    seen (run [0xF2#8] (poke { plain with c := 0x90#8 } 0xFF90 0x5D#8))
    (fun t => (t.a, t.instrCycles)) = some (0x5D#8, 8) := by decide

/-- 95_test_vectors 2.3. -/
theorem test_ld_at_n16_a_own_byte :
    seen (run [0xEA#8, 0x00#8, 0xC0#8] { plain with a := 0x0F#8 })
    (fun t => (t.cell 0xC000#16, t.pc, t.instrCycles)) = some (0x0F#8, 0xC003#16, 16) := by decide

/-- 95_test_vectors 2.3. -/
theorem test_ld_a_at_n16 :
    seen (run [0xFA#8, 0x80#8, 0xFF#8] (poke plain 0xFF80 0xA5#8))
    (fun t => (t.a, t.pc, t.instrCycles)) = some (0xA5#8, 0xC003#16, 16) := by decide

/-- 95_test_vectors 2.4. -/
theorem test_ld_bc_n16 :
    seen (run [0x01#8, 0x34#8, 0x12#8] plain)
    (fun t => (t.b, t.c, t.pc, t.instrCycles)) = some (0x12#8, 0x34#8, 0xC003#16, 12) := by decide

/-- 95_test_vectors 2.4. -/
theorem test_store_sp_across_video_ram :
    seen (run [0x08#8, 0xFF#8, 0x9F#8] { plain with sp := 0x1234#16 })
    (fun t => (t.cell 0x9FFF#16, t.cell 0xA000#16, t.output.length, t.instrCycles)) = some (0x34#8, 0x12#8, 8, 20) :=
  by decide

/-- 95_test_vectors 2.4 (R78). -/
theorem test_store_sp_wraps : stopOf (run [0x08#8, 0xFF#8, 0xFF#8] { plain with sp := 0x1234#16 }) =
    some (.unimplementedMemoryAccess (.write 0x12#8) 0x0000#16 0xC000#16) := by decide

/-- 95_test_vectors 2.4. -/
theorem test_ld_sp_hl :
    seen (run [0xF9#8] (withHL plain 0xD000#16)) (fun t => (t.sp, t.instrCycles)) = some (0xD000#16, 8) := by decide

/-- 95_test_vectors 2.4. -/
theorem test_ld_hl_sp_carry :
    seen (run [0xF8#8, 0x01#8] { plain with sp := 0x00FF#16 })
    (fun t => (t.hl, t.f, t.instrCycles)) = some (0x0100#16, 0x30#8, 12) := by decide

/-- 95_test_vectors 2.4. -/
theorem test_ld_hl_sp_negative :
    seen (run [0xF8#8, 0xFE#8] { plain with sp := 0xD000#16 })
    (fun t => (t.hl, t.f, t.instrCycles)) = some (0xCFFE#16, 0x00#8, 12) := by decide

/-- 95_test_vectors 2.4. -/
theorem test_inc_bc_wraps :
    seen (run [0x03#8] ({ plain with f := 0xF0#8 }.setReg16 .bc 0xFFFF#16))
    (fun t => (t.b, t.c, t.f, t.instrCycles)) = some (0x00#8, 0x00#8, 0xF0#8, 8) := by decide

/-- 95_test_vectors 2.4. -/
theorem test_dec_bc_wraps :
    seen (run [0x0B#8] plain) (fun t => (t.b, t.c, t.instrCycles)) = some (0xFF#8, 0xFF#8, 8) := by decide

/-- 95_test_vectors 2.4. -/
theorem test_add_hl_bc_keeps_z :
    seen (run [0x09#8] (withHL ({ plain with f := 0x80#8 }.setReg16 .bc 0x0605#16) 0x8A23#16))
    (fun t => (t.hl, t.f, t.instrCycles)) = some (0x9028#16, 0xA0#8, 8) := by decide

/-- 95_test_vectors 2.4. -/
theorem test_add_hl_hl :
    seen (run [0x29#8] (withHL plain 0x8A23#16))
    (fun t => (t.hl, t.f, t.instrCycles)) = some (0x1446#16, 0x30#8, 8) := by decide

/-- 95_test_vectors 2.4. -/
theorem test_add_sp_minus_one :
    seen (run [0xE8#8, 0xFF#8] { plain with sp := 0x0001#16 })
    (fun t => (t.sp, t.f, t.instrCycles)) = some (0x0000#16, 0x30#8, 16) := by decide

/-- 95_test_vectors 2.4. -/
theorem test_add_sp_minus_128 :
    seen (run [0xE8#8, 0x80#8] { plain with sp := 0x0000#16 })
    (fun t => (t.sp, t.f, t.instrCycles)) = some (0xFF80#16, 0x00#8, 16) := by decide

/-- 95_test_vectors 2.5 (D9). -/
theorem test_jr_back :
    seen (run [0x18#8, 0x80#8] plain) (fun t => (t.pc, t.instrCycles)) = some (0xBF82#16, 12) := by decide

/-- 95_test_vectors 2.5. -/
theorem test_jr_nz_taken :
    seen (run [0x20#8, 0x05#8] plain) (fun t => (t.pc, t.instrCycles)) = some (0xC007#16, 12) := by decide

/-- 95_test_vectors 2.5. -/
theorem test_jr_nz_passes :
    seen (run [0x20#8, 0x05#8] { plain with f := 0x80#8 })
    (fun t => (t.pc, t.instrCycles)) = some (0xC002#16, 8) := by decide

/-- 95_test_vectors 2.5. -/
theorem test_jp_to_0x0100 :
    seen (run [0xC3#8, 0x00#8, 0x01#8] plain)
    (fun t => (t.pc, t.bootEnabled, t.instrCycles)) = some (0x0100#16, false, 16) := by decide

/-- 95_test_vectors 2.5. -/
theorem test_jp_nc_taken :
    seen (run [0xD2#8, 0x00#8, 0xD0#8] plain) (fun t => (t.pc, t.instrCycles)) = some (0xD000#16, 16) := by decide

/-- 95_test_vectors 2.5. -/
theorem test_jp_hl :
    seen (run [0xE9#8] (withHL plain 0xC123#16)) (fun t => (t.pc, t.instrCycles)) = some (0xC123#16, 4) := by decide

/-- 95_test_vectors 2.5. -/
theorem test_call :
    seen (run [0xCD#8, 0x34#8, 0x12#8] { plain with sp := 0xDFF0#16 })
    (fun t => (t.pc, t.sp, t.cell 0xDFF0#16, t.cell 0xDFF1#16, t.instrCycles)) = some 
    (0x1234#16, 0xDFEE#16, 0x03#8, 0xC0#8, 24) := by decide

/-- 95_test_vectors 2.5. -/
theorem test_call_nc_passes :
    seen (run [0xD4#8, 0x34#8, 0x12#8] { plain with sp := 0xDFF0#16, f := 0x10#8 })
    (fun t => (t.pc, t.sp, t.cell 0xDFF0#16, t.instrCycles)) = some 
    (0xC003#16, 0xDFF0#16, 0x00#8, 12) := by decide

/-- 95_test_vectors 2.5. -/
theorem test_rst_28 :
    seen (run [0xEF#8] { plain with pc := 0xC234#16, sp := 0xDFF0#16 })
    (fun t => (t.pc, t.sp, t.cell 0xDFF0#16, t.cell 0xDFF1#16, t.instrCycles)) = some 
    (0x0028#16, 0xDFEE#16, 0x35#8, 0xC2#8, 16) := by decide

/-- 95_test_vectors 2.5. -/
theorem test_ret :
    seen (run [0xC9#8] (poke (poke { plain with sp := 0xDFEE#16 } 0xDFF0 0x03#8) 0xDFF1 0x01#8))
    (fun t => (t.pc, t.sp, t.instrCycles)) = some 
    (0x0103#16, 0xDFF0#16, 16) := by decide

/-- 95_test_vectors 2.5. -/
theorem test_ret_z_taken :
    seen (run [0xC8#8] (poke (poke { plain with sp := 0xDFEE#16, f := 0x80#8 } 0xDFF0 0x03#8) 0xDFF1 0x01#8))
    (fun t => (t.pc, t.sp, t.instrCycles)) = some 
    (0x0103#16, 0xDFF0#16, 20) := by decide

/-- 95_test_vectors 2.5 (S6). -/
theorem test_push_bc :
    seen (run [0xC5#8] (plain.setReg16 .bc 0xBEEF#16))
    (fun t => (t.cell 0xFFFE#16, t.cell 0xFFFF#16, t.sp, t.instrCycles)) = some 
    (0xEF#8, 0xBE#8, 0xFFFC#16, 16) := by decide

/-- 95_test_vectors 2.5. -/
theorem test_push_bc_high_byte : stopOf (run [0xC5#8] ({ plain with sp := 0xFFFF#16 }.setReg16 .bc 0x1234#16)) =
    some (.unimplementedMemoryAccess (.write 0x12#8) 0x0000#16 0xC000#16) := by decide

/-- 95_test_vectors 2.5. -/
theorem test_pop_af_drops_low_nibble :
    seen (run [0xF1#8] (poke (poke { plain with sp := 0xDFEE#16 } 0xDFF0 0xFF#8) 0xDFF1 0x34#8))
    (fun t => (t.a, t.f, t.sp, t.instrCycles)) = some 
    (0x34#8, 0xF0#8, 0xDFF0#16, 12) := by decide

/-- 95_test_vectors 2.5 (R383). -/
theorem test_pop_bc_first_after_reset :
    seen (run [0xC1#8, 0x99#8] State.reset) (fun t => (t.b, t.c, t.sp, t.pc)) = some 
    (0x99#8, 0xC1#8, 0x0000#16, 0x0001#16) := by decide

/-- 95_test_vectors 2.6. -/
theorem test_nop_wraps :
    seen (run [0x00#8] { plain with pc := 0xFFFF#16 })
    (fun t => (t.pc, t.instrCycles)) = some (0x0000#16, 4) := by decide

/-- 95_test_vectors 2.6 (D10). -/
theorem test_operand_wraps :
    seen (run [0x3E#8] { plain with pc := 0xFFFF#16 }) (fun t => (t.a, t.pc)) = some (0x00#8, 0x0001#16) := by decide

/-- 95_test_vectors 2.6. -/
theorem test_fetch_from_io_page :
    stopOf (step { plain with pc := 0xFF00#16 }) = some (.unimplementedMemoryAccess .read 0xFF00#16 0xFF00#16) :=
  by decide

/-- 95_test_vectors 2.6 (S10). -/
theorem test_unimplemented_d3 : stopOf (run [0xD3#8] plain) =
    some (.unimplementedOpcode .primary 0xD3#8 0xC000#16) := by decide

/-- 95_test_vectors 2.6. -/
theorem test_halt_in_every_profile : stopOf (run [0x76#8] home) =
    some (.unimplementedOpcode .primary 0x76#8 0xC000#16) := by decide

/-- 95_test_vectors 2.6. -/
theorem test_stop_in_every_profile : stopOf (run [0x10#8] home) =
    some (.unimplementedOpcode .primary 0x10#8 0xC000#16) := by decide

/-- 95_test_vectors 2.6. -/
theorem test_di_default_profile : stopOf (run [0xF3#8] plain) =
    some (.unimplementedOpcode .primary 0xF3#8 0xC000#16) := by decide

/-- 95_test_vectors 2.6. -/
theorem test_di_where_modeled :
    seen (run [0xF3#8] home) (fun t => (t.pc, t.f, t.instrCycles)) = some (0xC001#16, 0x00#8, 4) := by decide

/-- 95_test_vectors 2.6. -/
theorem test_ei_where_modeled :
    seen (run [0xFB#8] home) (fun t => (t.pc, t.f, t.instrCycles)) = some (0xC001#16, 0x00#8, 4) := by decide

/-- 95_test_vectors 2.6. -/
theorem test_reti_where_modeled :
    seen (run [0xD9#8] (poke (poke { home with sp := 0xDFEE#16 } 0xDFF0 0x03#8) 0xDFF1 0x01#8))
    (fun t => (t.pc, t.sp, t.instrCycles)) = some 
    (0x0103#16, 0xDFF0#16, 16) := by decide

/-- 95_test_vectors 2.6 (S7). -/
theorem test_twentieth_nop_ends_oam_search :
    seen (run [0x00#8] { plain with scanCycles := 76 })
    (fun t => (t.phase, t.scanCycles)) = some (Phase.pixelTransfer, 0) := by decide

/-- 95_test_vectors 1 (S16). -/
theorem test_latch_clears_at_0x0100 :
    seen (run [0x00#8] { State.reset with pc := 0x00FF#16 })
    (fun t => (t.pc, t.bootEnabled)) = some (0x0100#16, false) := by decide

/-- 60_exceptions R347: 153 becomes 0. -/
theorem test_row_counter_wraps :
    seen (run [0x00#8] (poke { plain with phase := .hblank, scanCycles := 200 } 0xFF44 153#8))
    (fun t => (t.row, t.phase, t.scanCycles)) = some (0x00#8, Phase.oamSearch, 0) := by decide

/-- 60_exceptions R352: the budget 69905 is reached, the rest kept. -/
theorem test_frame_pulse :
    seen (run [0x00#8] { plain with frameCycles := 69904 }) (fun t => (t.frameCycles, t.output)) =
    some (3, [Event.frameElapsed]) := by decide

/-! ## Witnesses: for each obligation with hypotheses, states and operands that meet them, one for each clause -/

set_option maxRecDepth 10000 in
/-- A full profile models every slot a profile may model. -/
theorem witness_every_slot_modeled : ∀ op : Fin 256,
    home.cfg.models .extended (BitVec.ofFin op) = true ∧
    (home.cfg.models .primary (BitVec.ofFin op) = true ∨ BitVec.ofFin op ∈ neverModeled) := by decide

set_option maxRecDepth 10000 in
/-- Every primary slot a profile may model completes where its operands lie in RAM. -/
theorem test_primary_slots_complete : ∀ op : Fin 256, BitVec.ofFin op ∈ neverModeled ∨
    completes (run [BitVec.ofFin op, 0x80#8, 0xC1#8]
      (withHL { home with b := 0xC2#8, c := 0x80#8, d := 0xC3#8, sp := 0xDFF0#16 } 0xC400#16)) = true := by decide

theorem witness_ResetMemoryIsCartridgeThenRam : ∃ cart : List Byte,
    (0x3FFF#16 ≠ Config.default.lyAddr ∧ (0x3FFF#16).toNat < 0x4000) ∧
    (0x4000#16 ≠ Config.default.lyAddr ∧ 0x4000 ≤ (0x7FFF#16).toNat ∧ (0x7FFF#16).toNat < 0x8000) ∧
    1 ≤ bankCount cart ∧ bankCount [] = 0 ∧ (0x8000#16 ≠ Config.default.lyAddr ∧ 0x8000 ≤ (0x8000#16).toNat) := by
  refine ⟨List.replicate 0x4001 0xAA#8, by decide, by decide, ?_, by decide, by decide⟩
  rw [bankCount, List.length_replicate]

theorem witness_ResetMeetsEveryInvariant :
    Memory.wf [(0x8000, 0x55#8), (0xFFFF, 0x01#8)] ∧ Config.default.rowGuarded ∧ Config.default.costsBelow80 :=
  ⟨by decide, by unfold Config.rowGuarded; decide, by unfold Config.costsBelow80; decide⟩

theorem witness_StepKeepsMemoryCanonical :
    Memory.wf (poke plain 0xC100 0x01#8).mem ∧ completes (step (poke plain 0xC100 0x01#8)) = true := by decide

theorem witness_StepKeepsLowNibbleOfFZero :
    { plain with f := 0xF0#8 }.f &&& 0x0F#8 = 0x00#8 ∧ completes (step { plain with f := 0xF0#8 }) = true := by decide

theorem witness_StepKeepsRowInRange :
    (poke plain 0xFF44 153#8).cfg.rowGuarded ∧ (poke plain 0xFF44 153#8).row.toNat ≤ 153 ∧
      completes (step (poke plain 0xFF44 153#8)) = true :=
  ⟨by unfold Config.rowGuarded; decide, by decide, by decide⟩

theorem witness_StepKeepsScanCyclesBelowThreshold :
    plain.cfg.costsBelow80 ∧ { plain with phase := .hblank, scanCycles := 203 }.scanCycles < Phase.hblank.threshold ∧
      completes (step { plain with phase := .hblank, scanCycles := 203 }) = true :=
  ⟨by unfold Config.costsBelow80; decide, by decide, by decide⟩

theorem witness_StepNeverChangesRomParametersOrPastOutput :
    completes (step plain) = true ∧ (0x7FFF#16).toNat < 0x8000 ∧ 0x7FFF#16 ≠ plain.cfg.lyAddr := by decide

/-- At 0x00FF the latch goes off, elsewhere it stays on. -/
theorem witness_BootLatchClearsExactlyAtPc0100 :
    { State.reset with pc := 0x00FF#16 }.running ∧ completes (step { State.reset with pc := 0x00FF#16 }) = true ∧
      State.reset.running ∧ completes (step State.reset) = true :=
  ⟨⟨rfl, rfl⟩, by decide, ⟨rfl, rfl⟩, by decide⟩

theorem witness_StoreChangesOneCell : Memory.wf plain.mem ∧ 0xA000 ≤ (0xA000#16).toNat := by decide

theorem witness_VideoStoreNotifiesEightPixels :
    (0x8000 ≤ (0x8000#16).toNat ∧ (0x8000#16).toNat < 0xA000) ∧ 0x8000 ≤ (0x9FFF#16).toNat ∧ (0x9FFF#16).toNat < 0xA000 := by
  decide

/-- The words at 0xFEFF, 0xFF7F and 0xFFFF, where one byte is turned down, and at 0xFFFE, where none is. -/
theorem witness_WordsAreLittleEndianLowByteFirst :
    plain.canRead 0xFF7F#16 = false ∧ (plain.canRead 0xFEFF#16 = true ∧ plain.canRead (0xFEFF#16 + 1#16) = false) ∧
      (plain.canRead 0xFFFF#16 = true ∧ plain.canRead (0xFFFF#16 + 1#16) = true) ∧ plain.canWrite 0x7FFF#16 = false ∧
      (plain.canWrite 0xFFFF#16 = true ∧ plain.canWrite (0xFFFF#16 + 1#16) = false) ∧
      (plain.canWrite 0xFFFE#16 = true ∧ plain.canWrite (0xFFFE#16 + 1#16) = true ∧
        plain.canRead 0xFFFE#16 = true ∧ plain.canRead (0xFFFE#16 + 1#16) = true) := by decide

theorem witness_DecodeOfEncodeIsTheInstruction :
    (Instr.ld_atN16_SP 0xFFFF#16).wellFormed = true ∧ (Instr.set_7_atHL).wellFormed = true := by decide

theorem witness_EncodeOfDecodeIsTheBytes :
    decode [0x20#8, 0x80#8, 0x76#8] = .ok (.jr_NZ_e8 0x80#8, [0x76#8]) ∧ (Instr.jr_NZ_e8 0x80#8).wellFormed = true :=
  ⟨rfl, rfl⟩

/-- One instruction of two bytes that completes, across the end of memory, and one that stops. -/
theorem witness_StepRunsTheDecodedInstruction :
    (let s := ({ plain with pc := 0xFFFF#16 }.plantBytes 0xFFFF#16 [0x3E#8, 0x00#8])
     s.running ∧ (Instr.ld_A_n8 0x00#8).wellFormed = true ∧ encode (.ld_A_n8 0x00#8) = [0x3E#8, 0x00#8] ∧
       (s.canRead s.pc = true ∧ s.byteAt s.pc = 0x3E#8 ∧ s.canRead (s.pc + 1#16) = true ∧ s.byteAt (s.pc + 1#16) = 0x00#8) ∧
       completes (exec (.ld_A_n8 0x00#8) { s with instrCycles := 0 }) = true) ∧
    (let s := poke plain 0xC000 0xD3#8
     s.running ∧ Instr.unimpl_D3.wellFormed = true ∧ encode .unimpl_D3 = [0xD3#8] ∧ s.canRead s.pc = true ∧
       s.byteAt s.pc = 0xD3#8 ∧
       stopOf (exec .unimpl_D3 { s with instrCycles := 0 }) = some (.unimplementedOpcode .primary 0xD3#8 0xC000#16)) :=
  ⟨⟨⟨rfl, rfl⟩, by decide, by decide, by decide, by decide⟩, ⟨rfl, rfl⟩, by decide, by decide, by decide, by decide, by decide⟩

/-- Each fatal error of a fetch, in turn: the opcode byte, the extended byte, an extended slot, a primary slot, one operand
byte, the second of two. -/
theorem witness_FetchErrorsComeInOrder :
    (let s := { plain with pc := 0xFF00#16 }
     s.canRead s.pc = false) ∧
    (let s := poke { plain with pc := 0xFEFF#16 } 0xFEFF 0xCB#8
     s.canRead s.pc = true ∧ s.byteAt s.pc = 0xCB#8 ∧ s.canRead (s.pc + 1#16) = false) ∧
    (let s := poke { plain with cfg := { Config.default with removedExtended := [0x00#8] } } 0xC000 0xCB#8
     s.canRead s.pc = true ∧ s.byteAt s.pc = 0xCB#8 ∧ s.canRead (s.pc + 1#16) = true ∧
       s.cfg.models .extended (s.byteAt (s.pc + 1#16)) = false) ∧
    (let s := poke plain 0xC000 0xF3#8
     s.canRead s.pc = true ∧ s.byteAt s.pc ≠ 0xCB#8 ∧ s.cfg.models .primary (s.byteAt s.pc) = false) ∧
    (let s := poke { plain with pc := 0xFEFF#16 } 0xFEFF 0x3E#8
     s.canRead s.pc = true ∧ s.byteAt s.pc ≠ 0xCB#8 ∧ s.cfg.models .primary (s.byteAt s.pc) = true ∧
       1 ≤ operandCount (s.byteAt s.pc) ∧ s.canRead (s.pc + 1#16) = false) ∧
    (let s := poke { plain with pc := 0xFEFE#16 } 0xFEFE 0xC3#8
     s.canRead s.pc = true ∧ s.byteAt s.pc ≠ 0xCB#8 ∧ s.cfg.models .primary (s.byteAt s.pc) = true ∧
       operandCount (s.byteAt s.pc) = 2 ∧ s.canRead (s.pc + 1#16) = true ∧ s.canRead (s.pc + 2#16) = false) := by decide

theorem witness_FetchErrorsComeInOrder_running :
    { plain with pc := 0xFF00#16 }.running ∧ (poke { plain with pc := 0xFEFE#16 } 0xFEFE 0xC3#8).running :=
  ⟨⟨rfl, rfl⟩, ⟨rfl, rfl⟩⟩

theorem witness_NoStepAfterFaultOrHostStop :
    { plain with hostRunning := false }.hostRunning = false ∧
      (let s := { plain with fault := some (.unimplementedOpcode .primary 0xD3#8 0xC000#16) }
       s.hostRunning = true ∧ s.fault = some (.unimplementedOpcode .primary 0xD3#8 0xC000#16)) := by decide

theorem witness_UnmodeledSlotsAreFatal :
    Instr.di.wellFormed = true ∧ plain.cfg.models (slotOf .di).1 (slotOf .di).2 = false := by decide

theorem witness_OnlyTheListedCausesAreFatal :
    plain.running ∧ stopOf (step (poke plain 0xC000 0xD3#8)) = some (.unimplementedOpcode .primary 0xD3#8 0xC000#16) ∧
      stopOf (exec .ld_atHL_B plain) = some (.unimplementedMemoryAccess (.write 0x00#8) 0x0000#16 0xC000#16) :=
  ⟨⟨rfl, rfl⟩, by decide, by decide⟩

theorem witness_CyclesReachOnlyTheReportedCost :
    completes (exec (.jr_e8 0xFE#8) plain) = true ∧ completes (exec (.jr_e8 0xFE#8)
      { plain with cfg := { plain.cfg with cycles := [⟨.primary, 0x18#8, false, 3⟩] } }) = true := by decide

/-- Each phase at its threshold and one below. -/
theorem witness_ScanlineUpdateMakesOneTransition :
    ({ plain with scanCycles := 76 }.phase = .oamSearch ∧ 80 ≤ 76 + 4) ∧
    ({ plain with phase := .pixelTransfer }.phase = .pixelTransfer ∧ 172 ≤ 168 + 4) ∧
    ({ plain with phase := .hblank }.phase = .hblank ∧ 204 ≤ 200 + 4) ∧ (plain.phase = .oamSearch ∧ 75 + 4 < 80) := by
  decide

theorem witness_FrameUpdateEmitsOnePulsePerBudget :
    plain.cfg.frameBudget ≤ { plain with frameCycles := 69901 }.frameCycles + 4 ∧
      { plain with frameCycles := 69900 }.frameCycles + 4 < plain.cfg.frameBudget := by decide

theorem witness_AddSetsSumAndFlags : (AluOp.add = .add ∨ AluOp.add = .adc) ∧ (AluOp.adc = .add ∨ AluOp.adc = .adc) := by
  decide

theorem witness_SubtractSetsDifferenceAndBorrows :
    (AluOp.sub = .sub ∨ AluOp.sub = .sbc) ∧ (AluOp.sbc = .sub ∨ AluOp.sbc = .sbc) := by decide

/-- 99 in two decimal digits. -/
theorem witness_DaaCorrectsDecimalSumAndDifference :
    { plain with a := 0x99#8 }.a = BitVec.ofNat 8 (16 * ((10 * 9 + 9) / 10 % 10) + (10 * 9 + 9) % 10) := by decide

/-- The slots of the statements on registers alone are modeled: LD B,C; LD B,n8; LD BC,n16; LD SP,HL; LD HL,SP+e8;
ADD SP,e8; INC BC; DEC BC; ADD HL,BC; ADD A,B; ADD A,n8; INC B; DEC B; DAA; CPL; SCF; CCF; RLCA; RRCA; RLA; RRA; JR; JR NZ;
JP; JP HL; JP NZ; NOP; DI; EI. -/
theorem witness_register_slots : ∀ op ∈
    [0x41#8, 0x06#8, 0x01#8, 0xF9#8, 0xF8#8, 0xE8#8, 0x03#8, 0x0B#8, 0x09#8, 0x80#8, 0xC6#8, 0x04#8, 0x05#8, 0x27#8, 0x2F#8,
      0x37#8, 0x3F#8, 0x07#8, 0x0F#8, 0x17#8, 0x1F#8, 0x18#8, 0x20#8, 0xC3#8, 0xE9#8, 0xC2#8, 0x00#8, 0xF3#8, 0xFB#8],
    home.cfg.models .primary op = true := by decide

/-- Every case of the four decimal corrections of DAA. -/
theorem witness_AdjustmentResult :
    home.cfg.models .primary 0x27#8 = true ∧
    (let s := { home with a := 0x9A#8 }
     s.nf = false ∧ 9 < s.a.toNat % 16 ∧ 0x99 < s.a.toNat) ∧
    (let s := { home with a := 0x0A#8 }
     s.nf = false ∧ 9 < s.a.toNat % 16 ∧ ¬(s.cf = true ∨ 0x99 < s.a.toNat)) ∧
    (let s := { home with a := 0xA0#8 }
     s.nf = false ∧ ¬(s.hf = true ∨ 9 < s.a.toNat % 16) ∧ 0x99 < s.a.toNat) ∧
    (let s := { home with f := 0x40#8 }
     s.nf = true ∧ s.hf = false ∧ s.cf = false) := by decide

/-- HL in RAM, whose byte can be read and written; in ROM, only read; at 0xFF00, neither. For LoadFromHLResult,
StoreToHLResult, AluResult, IncDecResult, RotateOperandResult, BitTestResult and ResSetResult. -/
theorem witness_operand_at_hl :
    (∀ op ∈ [0x46#8, 0x70#8, 0x36#8, 0x86#8, 0x34#8, 0x35#8], home.cfg.models .primary op = true) ∧
    (∀ op ∈ [0x00#8, 0x06#8, 0x40#8, 0x46#8, 0x80#8, 0x86#8, 0xC0#8, 0xC6#8], home.cfg.models .extended op = true) ∧
    (let s := withHL home 0x8000#16
     s.canRead s.hl = true ∧ s.canWrite s.hl = true) ∧
    (let s := withHL home 0x7FFF#16
     s.canRead s.hl = true ∧ s.canWrite s.hl = false) ∧
    (let s := withHL home 0xFF00#16
     s.canRead s.hl = false ∧ s.canWrite s.hl = false) := by decide

/-- The addresses of the accumulator's transfers, permitted and not: through BC and HL+, in the high page, absolute. For
StoreAccumulatorResult and LoadAccumulatorResult. -/
theorem witness_accumulator_addresses :
    (∀ op ∈ [0x02#8, 0x0A#8, 0x22#8, 0x2A#8, 0xE0#8, 0xE2#8, 0xEA#8, 0xF0#8, 0xF2#8, 0xFA#8],
      home.cfg.models .primary op = true) ∧
    (let s := home.setReg16 .bc 0xC010#16
     s.canWrite (Mem16.addr .atBC s) = true ∧ s.canRead (Mem16.addr .atBC s) = true) ∧
    (let s := withHL home 0xFF7F#16
     s.canWrite (Mem16.addr .atHLI s) = false ∧ s.canRead (Mem16.addr .atHLI s) = false) ∧
    (home.canWrite (highPage 0x42#8) = true ∧ home.canRead (highPage 0x42#8) = true) ∧
    (home.canWrite (highPage 0x44#8) = false ∧ home.canRead (highPage 0x40#8) = false) ∧
    (home.canWrite 0xFFFF#16 = true ∧ home.canWrite 0x7FFF#16 = false ∧ home.canRead 0xFF7F#16 = false) := by decide

/-- LD (n16),SP at 0xFFFE, 0x7FFF and 0xFFFF. -/
theorem witness_StoreStackPointerResult :
    home.cfg.models .primary 0x08#8 = true ∧ (home.canWrite 0xFFFE#16 = true ∧ home.canWrite (0xFFFE#16 + 1#16) = true) ∧
      home.canWrite 0x7FFF#16 = false ∧ (home.canWrite 0xFFFF#16 = true ∧ home.canWrite (0xFFFF#16 + 1#16) = false) := by
  decide

/-- SP where both bytes, no byte, and the low byte alone can be written: for PushResult and CallResult, whose slots PUSH BC,
CALL, CALL NZ and RST are modeled, NZ holding and Z not. -/
theorem witness_push_and_call :
    (∀ op ∈ [0xC5#8, 0xCD#8, 0xC4#8, 0xC7#8, 0xCC#8], home.cfg.models .primary op = true) ∧
      Cond.holds .nz home = true ∧ Cond.holds .z home = false ∧
      (home.canWrite home.sp = true ∧ home.canWrite (home.sp + 1#16) = true) ∧
      { home with sp := 0xFF7F#16 }.canWrite 0xFF7F#16 = false ∧
      ({ home with sp := 0xFFFF#16 }.canWrite 0xFFFF#16 = true ∧
        { home with sp := 0xFFFF#16 }.canWrite (0xFFFF#16 + 1#16) = false) := by decide

/-- SP plus 2 where both bytes, no byte, and the low byte alone can be read: for PopResult and ReturnResult, whose slots
POP BC, RET, RETI, RET NZ and RET Z are modeled. -/
theorem witness_pop_and_return :
    (∀ op ∈ [0xC1#8, 0xC9#8, 0xD9#8, 0xC0#8, 0xC8#8], home.cfg.models .primary op = true) ∧
      Cond.holds .nz home = true ∧ Cond.holds .z home = false ∧
      (home.canRead (home.sp + 2#16) = true ∧ home.canRead (home.sp + 2#16 + 1#16) = true) ∧
      { home with sp := 0xFF7D#16 }.canRead (0xFF7D#16 + 2#16) = false ∧
      ({ home with sp := 0xFEFD#16 }.canRead (0xFEFD#16 + 2#16) = true ∧
        { home with sp := 0xFEFD#16 }.canRead (0xFEFD#16 + 2#16 + 1#16) = false) := by decide

theorem witness_PopAndReturnUndoPushAndCall :
    home.canWriteWord home.sp = true ∧ home.canReadWord home.sp = true ∧ home.cfg.models .primary 0xCD#8 = true ∧
      home.cfg.models .primary 0xC9#8 = true := by decide

/-- A conditional jump that is taken and one that is not, for RelativeJumpResult and AbsoluteJumpResult. -/
theorem witness_jump_conditions :
    home.cfg.models .primary 0x20#8 = true ∧ home.cfg.models .primary 0xC2#8 = true ∧ Cond.holds .nz home = true ∧
      Cond.holds .nz { home with f := 0x80#8 } = false := by decide

/-- The byte after 0xCB readable and its slot modeled, and not readable. -/
theorem witness_ExtendedDispatchResult :
    (let s := poke home 0xC001 0x37#8
     s.canRead (s.pc + 1#16) = true ∧ s.byteAt (s.pc + 1#16) = 0x37#8 ∧
       s.cfg.models .extended (s.byteAt (s.pc + 1#16)) = true ∧ (s.byteAt (s.pc + 1#16)).toNat % 8 ≠ 6) ∧
    (let s := { home with pc := 0xFEFF#16 }
     s.canRead (s.pc + 1#16) = false) := by decide

/-- Latch on and off on either side of 0x0100; an image whose first byte differs from the overlay's; an instruction; a step
that ends elsewhere than at 0x0100; the step that ends there; a step after it. -/
theorem witness_OverlayHandsOverToTheCartridge :
    (State.reset.bootEnabled = true ∧ (0x00FF#16).toNat < 0x0100) ∧ plain.bootEnabled = false ∧
    (0x0100 ≤ (0x0100#16).toNat ∧ (0x7FFF#16).toNat < 0x8000 ∧
      (match State.reset.memRead 0x0100#16 with | .ok v => v == 0x00#8 | .error _ => false) = true) ∧
    ((0x0000#16).toNat < 0x0100 ∧ 0x0000#16 ≠ Config.default.lyAddr ∧ [0xAA#8][(0x0000#16).toNat]? = some 0xAA#8) ∧
    completes (exec .nop State.reset) = true ∧
    (State.reset.hostRunning = true ∧ State.reset.fault = none ∧
      seen (step State.reset) (fun t => t.pc) = some 0x0001#16) ∧
    ({ State.reset with pc := 0x00FF#16 }.hostRunning = true ∧ { State.reset with pc := 0x00FF#16 }.fault = none ∧
      seen (step { State.reset with pc := 0x00FF#16 }) (fun t => t.pc) = some 0x0100#16) ∧
    completes (step plain) = true := by decide

end Sys2Proof.Tests
end

section
/-! What no part of a step touches: the parameters, the host's input, the fatal error, memory below 0x8000 and the output
already emitted. Said once for the instruction and for each update after it, then composed to the whole step (O8). -/

namespace Sys2Proof.Machine

/-- From `s` to `t` the parameters, the host's input and the fatal error stay, so does every cell below 0x8000 but the row
counter's, and the output history only grows (00_scope R10, 20_memory R73, R75). -/
structure KeepsFixedParts (s t : State) : Prop where
  cfg : t.cfg = s.cfg
  host : t.hostRunning = s.hostRunning
  fault : t.fault = s.fault
  rom : ∀ a : Addr, a.toNat < 0x8000 → a ≠ s.cfg.lyAddr → t.cell a = s.cell a
  grows : ∃ events, t.output = s.output ++ events

/-- A change that leaves memory and the output history alone as well. -/
theorem KeepsFixedParts.of_sameMemory {s t : State} (cfg : t.cfg = s.cfg := by rfl)
    (host : t.hostRunning = s.hostRunning := by rfl) (fault : t.fault = s.fault := by rfl)
    (mem : t.mem = s.mem := by rfl) (output : t.output = s.output := by rfl) : KeepsFixedParts s t :=
  ⟨cfg, host, fault, fun _ _ _ => by rw [State.cell, State.cell, mem], [], by rw [output, List.append_nil]⟩

theorem KeepsFixedParts.refl (s : State) : KeepsFixedParts s s := .of_sameMemory

theorem KeepsFixedParts.trans {s t u : State} (h : KeepsFixedParts s t) (k : KeepsFixedParts t u) :
    KeepsFixedParts s u where
  cfg := k.cfg.trans h.cfg
  host := k.host.trans h.host
  fault := k.fault.trans h.fault
  rom a ha hne := (k.rom a ha (h.cfg ▸ hne)).trans (h.rom a ha hne)
  grows := by
    obtain ⟨e1, h1⟩ := h.grows
    obtain ⟨e2, h2⟩ := k.grows
    exact ⟨e1 ++ e2, by rw [h2, h1, List.append_assoc]⟩

/-- The address decoder lets no write below 0x8000 through (20_memory R71, R73). -/
theorem State.canWrite_below_0x8000 (s : State) {a : Addr} (ha : a.toNat < 0x8000) : s.canWrite a = false := by
  have hlow : ¬0x8000 ≤ a.toNat := by omega
  simp [State.canWrite, hlow]

/-- An operation stores only where the decoder lets it, so never below 0x8000. -/
theorem Changes.keepsFixedParts {s t : State} (h : Changes s t) : KeepsFixedParts s t where
  cfg := h.cfg
  host := h.host
  fault := h.fault
  rom a ha _ := h.frozen a (s.canWrite_below_0x8000 ha)
  grows := h.grows

theorem beginStep_keepsFixedParts (s : State) : KeepsFixedParts s s.beginStep := .of_sameMemory

theorem cyc_keepsFixedParts (s : State) (table : Table) (opcode : Byte) (taken : Bool) (n : Nat) :
    KeepsFixedParts s (s.cyc table opcode taken n) :=
  .of_sameMemory

theorem exec_keepsFixedParts {i : Instr} {s t : State} (h : exec i s = .next t) : KeepsFixedParts s t := by
  obtain ⟨u, table, opcode, taken, n, hu, -, -, rfl⟩ := exec_next h
  exact hu.keepsFixedParts.trans (cyc_keepsFixedParts u table opcode taken n)

theorem bootLatch_keepsFixedParts (s : State) : KeepsFixedParts s (bootLatch s) := by
  unfold bootLatch
  split
  · exact .of_sameMemory
  · exact .refl s

/-- The row counter's cell is the one cell an update after the instruction writes, past the address decoder
(60_exceptions R347). -/
theorem rowIncrement_keepsFixedParts (s : State) : KeepsFixedParts s (rowIncrement s) where
  cfg := rfl
  host := rfl
  fault := rfl
  rom _ _ hne := Memory.read_write_other _ _ _ _ fun e => hne (BitVec.eq_of_toNat_eq e)
  grows := ⟨[], (List.append_nil _).symm⟩

/-- A change of the phase and its accumulator alone. -/
theorem setPhase_keepsFixedParts (s : State) (cycles : Nat) (phase : Phase) :
    KeepsFixedParts s { s with scanCycles := cycles, phase := phase } :=
  .of_sameMemory

theorem transition_keepsFixedParts (s : State) : KeepsFixedParts s (transition s) := by
  unfold transition
  split
  · cases s.phase with
    | oamSearch => exact setPhase_keepsFixedParts s _ _
    | pixelTransfer => exact setPhase_keepsFixedParts s _ _
    | hblank => exact (setPhase_keepsFixedParts s _ _).trans (rowIncrement_keepsFixedParts _)
  · exact .refl s

theorem scanlineUpdate_keepsFixedParts (n : Nat) (s : State) : KeepsFixedParts s (scanlineUpdate n s) :=
  (setPhase_keepsFixedParts s (s.scanCycles + n) s.phase).trans (transition_keepsFixedParts _)

/-- The frame pulse is appended to the output history (60_exceptions R352). -/
theorem frameUpdate_keepsFixedParts (n : Nat) (s : State) : KeepsFixedParts s (frameUpdate n s) := by
  unfold frameUpdate
  dsimp only
  split
  · exact ⟨rfl, rfl, rfl, fun _ _ _ => rfl, [.frameElapsed], rfl⟩
  · exact .of_sameMemory

theorem afterInstruction_keepsFixedParts (s : State) : KeepsFixedParts s (afterInstruction s) :=
  (bootLatch_keepsFixedParts s).trans <|
    (scanlineUpdate_keepsFixedParts _ _).trans (frameUpdate_keepsFixedParts _ _)

theorem step_keepsFixedParts {s t : State} (h : step s = .next t) : KeepsFixedParts s t := by
  obtain ⟨-, rfl⟩ | ⟨-, -, i, u, -, hu, rfl⟩ := step_next h
  · exact .refl _
  · exact (beginStep_keepsFixedParts s).trans <|
      (exec_keepsFixedParts hu).trans (afterInstruction_keepsFixedParts u)

/-- Settles O8, by composing what the instruction and each update after it leave alone. -/
theorem stepNeverChangesRomParametersOrPastOutput : Obligations.StepNeverChangesRomParametersOrPastOutput := by
  intro s t h
  obtain ⟨hcfg, hhost, hfault, hrom, hgrows⟩ := step_keepsFixedParts h
  exact ⟨hcfg, hhost, hfault, hrom, hgrows⟩

end Sys2Proof.Machine
end

section
/-! What the state is after reset, how its registers and pairs are read and written, and the three properties that every
step keeps: canonical memory, a clean F, a row counter in range (10_state R20 to R24, R30, R35, R44; O1, O3 to O6, O15,
O21). A property kept by an instruction's operation and by the updates after it is kept by a step: said once in
`step_preserves`. -/

namespace Sys2Proof.Machine

/-! ### Reset -/

theorem resetWith_flagsClean (cfg : Config) (cart : List Byte) (ramInit : Memory) :
    (State.resetWith cfg cart ramInit).flagsClean := BitVec.zero_and

/-- Reset puts 0 in the row counter's cell, whatever lies there in the cartridge or in RAM_INIT. -/
theorem resetWith_row (cfg : Config) (cart : List Byte) (ramInit : Memory) :
    (State.resetWith cfg cart ramInit).row = 0#8 :=
  Memory.read_write_same (romCells cart ++ ramCells ramInit) cfg.lyAddr.toNat 0#8

theorem resetWith_rowSafe {cfg : Config} (h : cfg.rowGuarded) (cart : List Byte) (ramInit : Memory) :
    (State.resetWith cfg cart ramInit).rowSafe := by
  refine ⟨h, ?_⟩
  rw [resetWith_row]
  decide

theorem resetWith_scanSafe {cfg : Config} (h : cfg.costsBelow80) (cart : List Byte) (ramInit : Memory) :
    (State.resetWith cfg cart ramInit).scanSafe :=
  ⟨h, show 0 < 80 by decide⟩

theorem default_rowGuarded : Config.default.rowGuarded := by unfold Config.rowGuarded; decide

theorem default_costsBelow80 : Config.default.costsBelow80 := fun _ he => absurd he List.not_mem_nil

/-- Settles O1: all but the row counter is written out in `State.resetWith`. -/
theorem resetLeavesTheStatedValues : Obligations.ResetLeavesTheStatedValues := by
  intro cfg cart ramInit
  have hreg : ∀ r : Reg8, (State.resetWith cfg cart ramInit).reg r = 0x00#8 := by intro r; cases r <;> rfl
  exact ⟨hreg, rfl, rfl, rfl, rfl, rfl, resetWith_row cfg cart ramInit, rfl, rfl, rfl, rfl, rfl, rfl, rfl⟩

/-- Settles O3, each invariant by its own lemma about `State.resetWith`; `State.reset` is the default parameters' case. -/
theorem resetMeetsEveryInvariant : Obligations.ResetMeetsEveryInvariant :=
  ⟨fun _ cart ramInit => ⟨wf_resetMemory _ cart ramInit, resetWith_flagsClean _ cart ramInit,
      fun h => resetWith_rowSafe h cart ramInit, fun h => resetWith_scanSafe h cart ramInit⟩,
    reset_mem_wf, resetWith_rowSafe default_rowGuarded _ _, resetWith_scanSafe default_costsBelow80 _ _, rfl, rfl⟩

/-! ### The updates after an instruction -/

/-- The row after a row (60_exceptions R347). -/
def nextRow (row : Byte) : Byte := if row = 153#8 then 0#8 else row + 1#8

theorem nextRow_le_153 {row : Byte} (h : row.toNat ≤ 153) : (nextRow row).toNat ≤ 153 := by
  unfold nextRow
  split
  · decide
  · bv_omega

theorem rowIncrement_mem (s : State) :
    (rowIncrement s).mem = Memory.write s.mem s.cfg.lyAddr.toNat (nextRow s.row) := rfl

@[simp] theorem bootLatch_f (s : State) : (bootLatch s).f = s.f := by unfold bootLatch; split <;> rfl
@[simp] theorem bootLatch_mem (s : State) : (bootLatch s).mem = s.mem := by unfold bootLatch; split <;> rfl
@[simp] theorem bootLatch_cfg (s : State) : (bootLatch s).cfg = s.cfg := (bootLatch_keepsFixedParts s).cfg
@[simp] theorem frameUpdate_f (n : Nat) (s : State) : (frameUpdate n s).f = s.f := by
  unfold frameUpdate; dsimp only; split <;> rfl
@[simp] theorem frameUpdate_mem (n : Nat) (s : State) : (frameUpdate n s).mem = s.mem := by
  unfold frameUpdate; dsimp only; split <;> rfl

/-- A transition leaves F and leaves M or moves the row counter on: the latter at the end of horizontal blank
(60_exceptions R346). -/
theorem transition_f_mem (s : State) :
    (transition s).f = s.f ∧ ((transition s).mem = s.mem ∨
      (transition s).mem = Memory.write s.mem s.cfg.lyAddr.toNat (nextRow s.row)) := by
  unfold transition
  split
  · cases s.phase with
    | oamSearch => exact ⟨rfl, .inl rfl⟩
    | pixelTransfer => exact ⟨rfl, .inl rfl⟩
    | hblank => exact ⟨rfl, .inr (rowIncrement_mem _)⟩
  · exact ⟨rfl, .inl rfl⟩

@[simp] theorem scanlineUpdate_f (n : Nat) (s : State) : (scanlineUpdate n s).f = s.f := (transition_f_mem _).1

theorem scanlineUpdate_mem (n : Nat) (s : State) : (scanlineUpdate n s).mem = s.mem ∨
    (scanlineUpdate n s).mem = Memory.write s.mem s.cfg.lyAddr.toNat (nextRow s.row) := (transition_f_mem _).2

@[simp] theorem afterInstruction_f (s : State) : (afterInstruction s).f = s.f := by simp [afterInstruction]

@[simp] theorem afterInstruction_cfg (s : State) : (afterInstruction s).cfg = s.cfg :=
  (afterInstruction_keepsFixedParts s).cfg

/-- The updates after an instruction write no cell but the row counter's, and that only to the next row. -/
theorem afterInstruction_mem (s : State) : (afterInstruction s).mem = s.mem ∨
    (afterInstruction s).mem = Memory.write s.mem s.cfg.lyAddr.toNat (nextRow s.row) := by
  simpa [afterInstruction, State.row] using scanlineUpdate_mem s.instrCycles (bootLatch s)

/-! ### What every step keeps -/

/-- A property that does not depend on the reported cost, that every operation keeps and that the updates after an
instruction keep, is kept by every step. -/
theorem step_preserves {P : State → Prop} (cost : ∀ s n, P s → P { s with instrCycles := n })
    (operation : ∀ s t, Changes s t → P s → P t) (updates : ∀ s, P s → P (afterInstruction s))
    {s t : State} (h : step s = .next t) (hs : P s) : P t := by
  obtain ⟨-, rfl⟩ | ⟨-, -, i, u, -, hu, rfl⟩ := step_next h
  · exact hs
  · obtain ⟨v, table, opcode, taken, n, hv, -, -, rfl⟩ := exec_next hu
    exact updates _ (cost v _ (operation _ v hv (cost s 0 hs)))

theorem afterInstruction_wf (s : State) (h : Memory.wf s.mem) : Memory.wf (afterInstruction s).mem := by
  obtain hm | hm := afterInstruction_mem s <;> rw [hm]
  · exact h
  · exact Memory.wf_write _ _ _ h (BitVec.isLt _)

/-- Settles O4: a permitted store and the row increment both go through `Memory.write`. -/
theorem stepKeepsMemoryCanonical : Obligations.StepKeepsMemoryCanonical := fun _ _ hwf h =>
  step_preserves (P := fun s => Memory.wf s.mem) (fun _ _ => id) (fun _ _ hc => hc.wf) afterInstruction_wf h hwf

/-- Settles O5: every flag operation keeps the low nibble clean (`Changes.clean`), and the updates do not write F. -/
theorem stepKeepsLowNibbleOfFZero : Obligations.StepKeepsLowNibbleOfFZero :=
  ⟨resetWith_flagsClean, fun _ _ hclean h =>
    step_preserves (P := State.flagsClean) (fun _ _ => id) (fun _ _ hc => hc.clean)
      (fun s => flagsClean_congr (afterInstruction_f s)) h hclean⟩

/-- The decoder lets no write to a guarded row counter through (20_memory R69). -/
theorem canWrite_lyAddr_of_rowGuarded {s : State} (h : s.cfg.rowGuarded) : s.canWrite s.cfg.lyAddr = false := by
  obtain ⟨hio, hok⟩ := h
  simp only [State.canWrite, hio, hok, Bool.not_true, Bool.or_self, Bool.and_false]

/-- An operation does not change a guarded row counter. -/
theorem Changes.rowSafe {s t : State} (h : Changes s t) (hs : s.rowSafe) : t.rowSafe := by
  obtain ⟨hguard, hrow⟩ := hs
  have hsame : t.row = s.row := by
    rw [State.row, h.cfg]
    exact h.frozen _ (canWrite_lyAddr_of_rowGuarded hguard)
  exact ⟨h.cfg ▸ hguard, hsame ▸ hrow⟩

theorem afterInstruction_rowSafe (s : State) (h : s.rowSafe) : (afterInstruction s).rowSafe := by
  obtain ⟨hguard, hrow⟩ := h
  refine ⟨(afterInstruction_cfg s).symm ▸ hguard, ?_⟩
  rw [State.row, afterInstruction_cfg]
  obtain hm | hm := afterInstruction_mem s <;> rw [hm]
  · exact hrow
  · rw [Memory.read_write_same]
    exact nextRow_le_153 hrow

/-- Settles O6: only the row increment writes the guarded row counter, and the row after 153 is 0. -/
theorem stepKeepsRowInRange : Obligations.StepKeepsRowInRange := fun _ _ hguard hrow h =>
  step_preserves (P := State.rowSafe) (fun _ _ => id) (fun _ _ => Changes.rowSafe) afterInstruction_rowSafe h
    ⟨hguard, hrow⟩

/-! ### Registers and pairs -/

theorem hiByte_eq_ofNat (x : Addr) : hiByte x = BitVec.ofNat 8 (x.toNat / 256) := by
  apply BitVec.eq_of_toNat_eq
  simp [hiByte, Nat.shiftRight_eq_div_pow]

theorem loByte_eq_ofNat (x : Addr) : loByte x = BitVec.ofNat 8 (x.toNat % 256) := by
  apply BitVec.eq_of_toNat_eq
  simp [loByte]

theorem pair_eq_ofNat (hi lo : Byte) : pair hi lo = BitVec.ofNat 16 (256 * hi.toNat + lo.toNat) := by
  apply BitVec.eq_of_toNat_eq
  have hhi := hi.isLt
  have hlo := lo.isLt
  rw [pair, BitVec.toNat_append, ← Nat.shiftLeft_add_eq_or_of_lt hlo, Nat.shiftLeft_eq, BitVec.toNat_ofNat]
  omega

theorem pair_hiByte_loByte (x : Addr) : pair (hiByte x) (loByte x) = x := by
  apply BitVec.eq_of_toNat_eq
  have hx := x.isLt
  rw [pair_eq_ofNat, hiByte_eq_ofNat, loByte_eq_ofNat]
  simp only [BitVec.toNat_ofNat]
  omega

/-- Reading a pair back after writing it (10_state R21, R22). -/
theorem State.reg16_setReg16_same (s : State) (r : Reg16) (x : Addr) : (s.setReg16 r x).reg16 r = x := by
  cases r with
  | sp => rfl
  | bc => exact pair_hiByte_loByte x
  | de => exact pair_hiByte_loByte x
  | hl => exact pair_hiByte_loByte x

/-- Settles O15: each access is its field by definition, `pair`, `hiByte` and `loByte` are the stated arithmetic, and a
pair reads back. -/
theorem pairsAreViewsOfTheirRegisters : Obligations.PairsAreViewsOfTheirRegisters := by
  intro s x v
  simp only [← pair_eq_ofNat, ← hiByte_eq_ofNat, ← loByte_eq_ofNat]
  exact ⟨⟨rfl, rfl, rfl, rfl, rfl, rfl, rfl⟩, ⟨rfl, rfl, rfl, rfl, rfl, rfl, rfl⟩,
    ⟨rfl, rfl, rfl, rfl, rfl⟩, ⟨rfl, rfl, rfl, rfl⟩, ⟨rfl, rfl, rfl, rfl, rfl, rfl, rfl, rfl⟩,
    fun r => s.reg16_setReg16_same r x⟩

/-! ### When no instruction runs -/

/-- A step the host does not want leaves the state as it is (60_exceptions R353). -/
theorem step_of_hostStopped {s : State} (h : s.hostRunning = false) : step s = .next s := by simp [step, gate, h]

/-- No step follows a fatal error (60_exceptions R336). -/
theorem step_of_fault {s : State} {e : FatalError} (hr : s.hostRunning = true) (he : s.fault = some e) :
    step s = .fault (.noFurtherStep e) := by simp [step, gate, hr, he]

/-- Settles O21, by the two branches of `gate` that run no instruction. -/
theorem noStepAfterFaultOrHostStop : Obligations.NoStepAfterFaultOrHostStop := fun _ =>
  ⟨step_of_hostStopped, fun _ => step_of_fault⟩

end Sys2Proof.Machine
end

section
/-! The address decoder and the shape of memory: how a byte read and a byte write are decided, what a store does to M and
to the output history, and words as two bytes (20_memory R62 to R78; O10 to O14). -/

namespace Sys2Proof.Machine

/-! ### The decoder's tests -/

theorem State.overlaid_iff {s : State} {a : Addr} : s.overlaid a = true ↔ s.bootEnabled = true ∧ a.toNat < 0x0100 := by
  simp [State.overlaid]

theorem State.overlaid_of_latchOff {s : State} (hb : s.bootEnabled = false) (a : Addr) : s.overlaid a = false := by
  simp [State.overlaid, hb]

theorem State.overlaid_ge_0x0100 (s : State) {a : Addr} (ha : 0x0100 ≤ a.toNat) : s.overlaid a = false :=
  Bool.eq_false_iff.mpr fun h => by have := State.lt_of_overlaid h; omega

theorem isIo_iff {a : Addr} : isIo a = true ↔ 0xFF00 ≤ a.toNat ∧ a.toNat < 0xFF80 := by simp [isIo]

theorem State.canWrite_ge_0x8000 {s : State} {a : Addr} (h : s.canWrite a = true) : 0x8000 ≤ a.toNat := by
  by_contra hlow
  rw [s.canWrite_below_0x8000 (by omega)] at h
  cases h

/-- Where the overlay does not reach, a permitted read gives M's byte. -/
theorem State.byteAt_ge_0x0100 (s : State) {a : Addr} (h : 0x0100 ≤ a.toNat) : s.byteAt a = s.cell a := by
  simp [State.byteAt, s.overlaid_ge_0x0100 h, State.cell]

/-- Settles O10: the three tests of `State.memRead`, each written as its range or list. -/
theorem byteReadFollowsTheDecoder : Obligations.ByteReadFollowsTheDecoder := by
  intro s a
  simp only [State.memRead, State.overlaid_iff, isIo_iff, List.contains_iff_mem, State.cell]

/-- Settles O11: `State.memWrite` has the same tests but the one for video RAM, which the I/O page does not meet. -/
theorem byteWriteFollowsTheDecoder : Obligations.ByteWriteFollowsTheDecoder := by
  intro s a v
  simp only [State.memWrite, State.overlaid_iff, isIo_iff, List.contains_iff_mem]
  by_cases hvideo : a.toNat < 0xA000
  · have hio : ¬0xFF00 ≤ a.toNat := by omega
    simp [hvideo, hio]
  · simp [hvideo]

/-! ### A store -/

/-- What M holds after a store (20_memory R67). -/
theorem State.cell_store (s : State) (a b : Addr) (v : Byte) :
    (s.store a v).cell b = if b = a then v else s.cell b := by
  rw [State.cell, State.store_mem]
  split
  case isTrue h => rw [h, Memory.read_write_same]
  case isFalse h => exact Memory.read_write_other _ _ _ _ fun e => h (BitVec.eq_of_toNat_eq e)

/-- A store writes no field but memory and the output history. -/
theorem State.store_frame (s : State) (a : Addr) (v : Byte) :
    s.store a v = { s with mem := (s.store a v).mem, output := (s.store a v).output } := by
  unfold State.store
  split <;> rfl

/-- Below 0xA000 a store emits the tile row as M then holds it (20_memory R74). -/
theorem State.output_store_lt_0xA000 (s : State) {a : Addr} (v : Byte) (h : a.toNat < 0xA000) :
    (s.store a v).output = s.output ++ tileEvents (s.store a v).mem a := by
  rw [State.store_mem, State.store, if_pos h]

/-- From 0xA000 on a store emits nothing (20_memory R71). -/
theorem State.output_store_ge_0xA000 (s : State) {a : Addr} (v : Byte) (h : 0xA000 ≤ a.toNat) :
    (s.store a v).output = s.output := by
  rw [State.store, if_neg (by omega)]

theorem State.store_wf {s : State} (a : Addr) (v : Byte) (h : Memory.wf s.mem) : Memory.wf (s.store a v).mem := by
  rw [State.store_mem]
  exact Memory.wf_write _ _ _ h a.isLt

/-- Settles O12: each clause is one lemma about `State.store`. -/
theorem storeChangesOneCell : Obligations.StoreChangesOneCell := fun s a v =>
  ⟨fun b => s.cell_store a b v, State.store_wf a v, s.store_frame a v, s.output_store_ge_0xA000 v⟩

/-! ### The tile port -/

/-- The even address of the pair of bytes that hold a tile row. -/
theorem clearBit0_eq_ofNat (a : Addr) : a &&& 0xFFFE#16 = BitVec.ofNat 16 (a.toNat / 2 * 2) := by
  have hmask : ∀ i < 16, (0xFFFE#16).getLsbD i = decide (i ≠ 0) := by decide
  have hshift : a &&& 0xFFFE#16 = (a >>> 1) <<< 1 := by
    apply BitVec.eq_of_getLsbD_eq
    intro i hi
    by_cases h0 : i = 0
    · simp [h0]
    · have h1 : 1 + (i - 1) = i := by omega
      simp [hmask i hi, h0, h1, hi]
  rw [hshift]
  apply BitVec.eq_of_toNat_eq
  simp [Nat.shiftRight_eq_div_pow, Nat.shiftLeft_eq]

/-- The odd address after it is in the same pair, so the addition does not wrap. -/
theorem toNat_even_add_one (n : Nat) :
    (BitVec.ofNat 16 (n / 2 * 2) + 1#16).toNat = (BitVec.ofNat 16 (n / 2 * 2)).toNat + 1 := by
  simp only [BitVec.toNat_add, BitVec.toNat_ofNat]
  omega

/-- The two planes' bits as a colour (D17). -/
theorem twoBits_eq_ofNat (high low : Bool) :
    BitVec.ofBool high ++ BitVec.ofBool low = BitVec.ofNat 2 (2 * high.toNat + low.toNat) := by
  cases high <;> cases low <;> rfl

/-- A notification by the arithmetic of 20_memory R74. -/
theorem tilePixel_eq {a : Addr} (h : 0x8000 ≤ a.toNat) (byte1 byte2 : Byte) (px : Nat) :
    tilePixel a byte1 byte2 px =
      .tile (BitVec.ofNat 9 ((a.toNat - 0x8000) / 16)) (BitVec.ofNat 3 (a.toNat % 16 / 2)) (BitVec.ofNat 3 px)
        (BitVec.ofNat 2 (2 * (byte2.getLsbD (7 - px)).toNat + (byte1.getLsbD (7 - px)).toNat)) := by
  have ha := a.isLt
  have htile : ((a - 0x8000#16) >>> 4).setWidth 9 = BitVec.ofNat 9 ((a.toNat - 0x8000) / 16) := by
    apply BitVec.eq_of_toNat_eq
    simp only [BitVec.toNat_setWidth, BitVec.toNat_ushiftRight, BitVec.toNat_sub, BitVec.toNat_ofNat,
      Nat.shiftRight_eq_div_pow]
    omega
  have hrow : (a >>> 1).setWidth 3 = BitVec.ofNat 3 (a.toNat % 16 / 2) := by
    apply BitVec.eq_of_toNat_eq
    simp only [BitVec.toNat_setWidth, BitVec.toNat_ushiftRight, BitVec.toNat_ofNat, Nat.shiftRight_eq_div_pow]
    omega
  rw [tilePixel, htile, hrow, twoBits_eq_ofNat]

/-- Settles O13: the store's frame, and the tile row it emits written by arithmetic. -/
theorem videoStoreNotifiesEightPixels : Obligations.VideoStoreNotifiesEightPixels := by
  intro s a v hlow hhigh
  rw [State.store_frame, s.output_store_lt_0xA000 v hhigh]
  rw [tileEvents, funext (tilePixel_eq hlow _ _), clearBit0_eq_ofNat, ← toNat_even_add_one]
  rfl

/-! ### Words -/

/-- `MemRead(a, 2)`: the low byte's access decides first (20_memory R76). -/
theorem State.memRead2_eq (s : State) (a : Addr) :
    s.memRead2 a =
      if s.canRead a then
        if s.canRead (a + 1#16) then .ok (s.wordAt a) else .error ⟨.read, a + 1#16, s⟩
      else .error ⟨.read, a, s⟩ := by
  simp only [State.memRead2, State.memRead_eq, State.wordAt]
  cases s.canRead a <;> cases s.canRead (a + 1#16) <;> rfl

/-- `MemWrite(a, 2, v)`: the low byte's access decides first, and its store stands when the high byte's is turned down
(20_memory R77). -/
theorem State.memWrite2_eq (s : State) (a v : Addr) :
    s.memWrite2 a v =
      if s.canWrite a then
        if s.canWrite (a + 1#16) then .ok (s.storeWord a v)
        else .error ⟨.write (hiByte v), a + 1#16, s.store a (loByte v)⟩
      else .error ⟨.write (loByte v), a, s⟩ := by
  rw [State.memWrite2, State.memWrite_eq]
  cases s.canWrite a with
  | false => rfl
  | true =>
    show (s.store a (loByte v)).memWrite (a + 1#16) (hiByte v) = _
    rw [State.memWrite_eq, State.canWrite_store]
    rfl

theorem State.cell_storeWord (s : State) (a b v : Addr) :
    (s.storeWord a v).cell b = if b = a + 1#16 then hiByte v else if b = a then loByte v else s.cell b := by
  rw [State.storeWord, State.cell_store, State.cell_store]

@[simp] theorem State.canRead_storeWord (s : State) (a v b : Addr) : (s.storeWord a v).canRead b = s.canRead b :=
  State.canRead_congr (by simp [State.storeWord]) (by simp [State.storeWord]) b

/-- A word written is the word there: neither byte lies under the overlay. -/
theorem State.wordAt_storeWord {s : State} {a : Addr} (v : Addr) (h : s.canWriteWord a = true) :
    (s.storeWord a v).wordAt a = v := by
  simp only [State.canWriteWord, Bool.and_eq_true] at h
  have hlo := State.canWrite_ge_0x8000 h.1
  have hhi := State.canWrite_ge_0x8000 h.2
  have hne : a ≠ a + 1#16 := by bv_omega
  rw [State.wordAt, State.byteAt_ge_0x0100 _ (by omega), State.byteAt_ge_0x0100 _ (by omega), State.cell_storeWord,
    State.cell_storeWord, if_pos rfl, if_neg hne, if_pos rfl, pair_hiByte_loByte]

/-- Settles O14, by the case equations of the word read and the word write. -/
theorem wordsAreLittleEndianLowByteFirst : Obligations.WordsAreLittleEndianLowByteFirst := by
  intro s a v
  simp only [← pair_eq_ofNat, ← hiByte_eq_ofNat, ← loByte_eq_ofNat, State.memRead2_eq, State.memWrite2_eq]
  refine ⟨fun h => by simp [h], fun h1 h2 => by simp [h1, h2], fun h1 h2 => by simp [h1, h2, State.wordAt],
    fun h => by simp [h], fun h1 h2 => ⟨s.store a (loByte v), by simp [h1, h2]⟩, fun h1 h2 => ?_⟩
  have hword : s.canWriteWord a = true := by simp [State.canWriteWord, h1, h2]
  exact ⟨s.storeWord a v, by simp [h1, h2], fun b => s.cell_storeWord a b v,
    fun r1 r2 => by simp [r1, r2, State.wordAt_storeWord v hword]⟩

end Sys2Proof.Machine
end

section
/-! The memory that reset lays out, and the hand-over from the boot overlay to the cartridge (20_memory R63,
R86; O2, O60). -/

namespace Sys2Proof.Machine

/-! ### Reset -/

/-- A read of two lists is one of the second where the first does not list the address. -/
theorem Memory.read_append_right {m : Memory} (n : Memory) {a : Nat} (h : ∀ c ∈ m, c.1 ≠ a) :
    Memory.read (m ++ n) a = Memory.read n a := by
  induction m with
  | nil => rfl
  | cons c rest ih =>
    rw [List.cons_append, Memory.read, if_neg (h c List.mem_cons_self)]
    exact ih fun d hd => h d (List.mem_cons_of_mem c hd)

/-- A read of two lists is one of the first where the second does not list the address. -/
theorem Memory.read_append_left (m : Memory) {n : Memory} {a : Nat} (h : ∀ c ∈ n, c.1 ≠ a) :
    Memory.read (m ++ n) a = Memory.read m a := by
  induction m with
  | nil => exact Memory.read_absent n a h
  | cons c rest ih => rw [List.cons_append, Memory.read, Memory.read, ih]

/-- Dropping cells of other addresses does not change a read. -/
theorem Memory.read_filter_kept (m : Memory) (p : Host.Cell → Bool) (a : Nat) (h : ∀ v, p (a, v) = true) :
    Memory.read (m.filter p) a = Memory.read m a := by
  induction m with
  | nil => rfl
  | cons c rest ih =>
    by_cases hc : c.1 = a
    · have hp : p c = true := by
        subst hc
        exact h c.2
      simp [hp, Memory.read, hc]
    · cases hp : p c <;> simp [hp, Memory.read, hc, ih]

/-- A block laid out from an address reads back byte by byte, and as 0 past its end. -/
theorem read_cellsFrom (bytes : List Byte) : ∀ a i : Nat, Memory.read (cellsFrom a bytes) (a + i) = bytes.getD i 0#8 := by
  induction bytes with
  | nil => intro a i; rfl
  | cons b rest ih =>
    intro a i
    have hlater : ∀ c ∈ cellsFrom (a + 1) rest, c.1 ≠ a := fun c hc => by
      have := cellsFrom_bounds rest (a + 1) c hc
      omega
    unfold cellsFrom
    cases i with
    | zero =>
      split
      case isTrue hb => exact (Memory.read_absent _ _ hlater).trans hb.symm
      case isFalse => exact if_pos rfl
    | succ i =>
      have hrest : Memory.read (cellsFrom (a + 1) rest) (a + (i + 1)) = rest.getD i 0#8 := by
        rw [← ih (a + 1) i]
        congr 1
        omega
      have hne : a ≠ a + (i + 1) := by omega
      split
      · exact hrest
      · exact (if_neg hne).trans hrest

/-- The image's cells: a byte of the first 0x8000, the fixed bank and bank 0, stands at its own index (20_memory R86). -/
theorem read_romCells (cart : List Byte) {a : Nat} (h : a < 0x8000) :
    Memory.read (romCells cart) a = cart.getD a 0#8 := by
  unfold romCells
  by_cases hfixed : a < 0x4000
  · rw [Memory.read_append_left _ fun c hc => by have := cellsFrom_bounds _ _ c hc; omega]
    have hread := read_cellsFrom (cart.take 0x4000) 0 a
    rw [Nat.zero_add] at hread
    rw [hread, List.getD_eq_getElem?_getD, List.getElem?_take_of_lt hfixed, List.getD_eq_getElem?_getD]
  · obtain ⟨i, rfl⟩ : ∃ i, a = 0x4000 + i := ⟨a - 0x4000, by omega⟩
    have hi : i < 0x4000 := by omega
    rw [Memory.read_append_right _ fun c hc => by
      have hb := cellsFrom_bounds _ _ c hc
      rw [List.length_take] at hb
      omega]
    rw [read_cellsFrom, List.getD_eq_getElem?_getD, List.getElem?_take_of_lt hi, List.getElem?_drop,
      List.getD_eq_getElem?_getD]

/-- Reset writes one cell over the image and RAM_INIT: the row counter's (70_reset_and_hazards R380). -/
theorem cell_resetWith (cfg : Config) (cart : List Byte) (ramInit : Memory) {a : Addr} (hne : a ≠ cfg.lyAddr) :
    (State.resetWith cfg cart ramInit).cell a = Memory.read (romCells cart ++ ramCells ramInit) a.toNat :=
  Memory.read_write_other (romCells cart ++ ramCells ramInit) _ _ 0#8 fun e => hne (BitVec.eq_of_toNat_eq e)

/-- A cell below 0x8000 after reset. -/
theorem cell_resetWith_lt_0x8000 (cfg : Config) (cart : List Byte) (ramInit : Memory) {a : Addr} (hne : a ≠ cfg.lyAddr)
    (h : a.toNat < 0x8000) : (State.resetWith cfg cart ramInit).cell a = cart.getD a.toNat 0#8 := by
  have hram : ∀ c ∈ ramCells ramInit, c.1 ≠ a.toNat := fun c hc => by
    have hp := (List.mem_filter.mp hc).2
    simp only [Bool.and_eq_true, decide_eq_true_eq] at hp
    omega
  rw [cell_resetWith cfg cart ramInit hne, Memory.read_append_left _ hram, read_romCells cart h]

/-- A cell from 0x8000 on after reset. -/
theorem cell_resetWith_ge_0x8000 (cfg : Config) (cart : List Byte) (ramInit : Memory) {a : Addr} (hne : a ≠ cfg.lyAddr)
    (h : 0x8000 ≤ a.toNat) : (State.resetWith cfg cart ramInit).cell a = Memory.read ramInit a.toNat := by
  have hrom : ∀ c ∈ romCells cart, c.1 ≠ a.toNat := fun c hc => by
    have := romCells_below cart c hc
    omega
  have hkept : ∀ v : Byte, (decide (0x8000 ≤ (a.toNat, v).1) && decide ((a.toNat, v).1 < 0x10000)) = true := fun v => by
    have := a.isLt
    simp [h, this]
  rw [cell_resetWith cfg cart ramInit hne, Memory.read_append_right _ hrom]
  exact Memory.read_filter_kept _ _ _ hkept

/-- An image without a switchable bank ends with the fixed bank. -/
theorem length_le_of_bankCount_eq_zero {cart : List Byte} (h : bankCount cart = 0) : cart.length ≤ 0x4000 := by
  unfold bankCount at h
  omega

/-- Settles O2: below 0x8000 a cell holds the image's byte of that index, which from 0x4000 on is the byte of bank 0 or,
without a bank, past the image's end. -/
theorem resetMemoryIsCartridgeThenRam : Obligations.ResetMemoryIsCartridgeThenRam := by
  intro cfg cart ramInit a hne
  refine ⟨fun h => cell_resetWith_lt_0x8000 cfg cart ramInit hne (by omega), fun hge hlt _ => ?_, fun hge hlt hbanks => ?_,
    cell_resetWith_ge_0x8000 cfg cart ramInit hne⟩
  · have hindex : 0x4000 * (0 + 1) + (a.toNat - 0x4000) = a.toNat := by omega
    rw [cell_resetWith_lt_0x8000 cfg cart ramInit hne hlt, bankByte, hindex]
  · rw [cell_resetWith_lt_0x8000 cfg cart ramInit hne hlt]
    exact List.getD_eq_default _ _ ((length_le_of_bankCount_eq_zero hbanks).trans hge)

/-! ### The boot latch -/

@[simp] theorem bootLatch_pc (s : State) : (bootLatch s).pc = s.pc := by unfold bootLatch; split <;> rfl

theorem bootLatch_bootEnabled (s : State) :
    (bootLatch s).bootEnabled = if s.pc = 0x0100#16 then false else s.bootEnabled := by
  unfold bootLatch
  split <;> rfl

/-- The phase machine leaves PC and the latch (60_exceptions R346). -/
theorem transition_pc_bootEnabled (s : State) :
    (transition s).pc = s.pc ∧ (transition s).bootEnabled = s.bootEnabled := by
  unfold transition
  split
  · cases s.phase <;> exact ⟨rfl, rfl⟩
  · exact ⟨rfl, rfl⟩

@[simp] theorem scanlineUpdate_pc (n : Nat) (s : State) : (scanlineUpdate n s).pc = s.pc :=
  (transition_pc_bootEnabled _).1
@[simp] theorem scanlineUpdate_bootEnabled (n : Nat) (s : State) : (scanlineUpdate n s).bootEnabled = s.bootEnabled :=
  (transition_pc_bootEnabled _).2
@[simp] theorem frameUpdate_pc (n : Nat) (s : State) : (frameUpdate n s).pc = s.pc := by
  unfold frameUpdate; dsimp only; split <;> rfl
@[simp] theorem frameUpdate_bootEnabled (n : Nat) (s : State) : (frameUpdate n s).bootEnabled = s.bootEnabled := by
  unfold frameUpdate; dsimp only; split <;> rfl

@[simp] theorem afterInstruction_pc (s : State) : (afterInstruction s).pc = s.pc := by simp [afterInstruction]

/-- Of the updates after an instruction only the latch check touches the latch (41_dispatch R205). -/
theorem afterInstruction_bootEnabled (s : State) :
    (afterInstruction s).bootEnabled = if s.pc = 0x0100#16 then false else s.bootEnabled := by
  simp [afterInstruction, bootLatch_bootEnabled]

/-- No instruction changes the latch. -/
theorem exec_bootEnabled {i : Instr} {s t : State} (h : exec i s = .next t) : t.bootEnabled = s.bootEnabled := by
  obtain ⟨u, table, opcode, taken, n, hu, -, -, rfl⟩ := exec_next h
  exact hu.boot

/-- The latch after a step that ran an instruction, by where the step leaves PC (41_dispatch R205). -/
theorem step_bootEnabled {s t : State} (hs : s.running) (h : step s = .next t) :
    t.bootEnabled = if t.pc = 0x0100#16 then false else s.bootEnabled := by
  obtain ⟨hstopped, -⟩ | ⟨-, -, i, u, -, hu, rfl⟩ := step_next h
  · rw [hs.1] at hstopped
    cases hstopped
  · rw [afterInstruction_bootEnabled, afterInstruction_pc, exec_bootEnabled hu]
    rfl

/-- The latch is never set again (10_state R31). -/
theorem step_bootEnabled_false {s t : State} (hs : s.bootEnabled = false) (h : step s = .next t) :
    t.bootEnabled = false := by
  obtain ⟨-, rfl⟩ | ⟨hr, hf, -⟩ := step_next h
  · exact hs
  · rw [step_bootEnabled ⟨hr, hf⟩ h, hs, ite_self]

/-! ### The hand-over -/

theorem State.memRead_overlaid {s : State} {a : Addr} (hb : s.bootEnabled = true) (ha : a.toNat < 0x0100) :
    s.memRead a = .ok (Memory.read s.cfg.boot a.toNat) :=
  if_pos (State.overlaid_iff.mpr ⟨hb, ha⟩)

/-- A read of a cartridge address that the overlay does not cover is let through and gives M's byte (20_memory R62, R64). -/
theorem State.memRead_cartridge {s : State} {a : Addr} (hov : s.overlaid a = false) (ha : a.toNat < 0x8000) :
    s.memRead a = .ok (s.cell a) := by
  have hio : isIo a = false := Bool.eq_false_iff.mpr fun h => by have := isIo_iff.mp h; omega
  simp [State.memRead, hov, hio, State.cell]

/-- A read from 0x0100 on is M's byte, if it is let through. -/
theorem State.eq_cell_of_memRead_ge_0x0100 {s : State} {a : Addr} (ha : 0x0100 ≤ a.toNat) {v : Byte}
    (h : s.memRead a = .ok v) : v = s.cell a := by
  rw [State.memRead_eq, s.byteAt_ge_0x0100 ha] at h
  split at h
  · cases h; rfl
  · cases h

/-- Settles O60: the reads on either side of the latch and of 0x0100, the latch's own lemmas, and
`step_keepsFixedParts` for BOOT and the cartridge's cells. -/
theorem overlayHandsOverToTheCartridge : Obligations.OverlayHandsOverToTheCartridge := by
  refine ⟨fun s a => ⟨State.memRead_overlaid, fun hb ha => ?_, fun ha v => State.eq_cell_of_memRead_ge_0x0100 ha,
      fun ha => State.memRead_cartridge (s.overlaid_ge_0x0100 ha)⟩,
    fun cfg cart ramInit a v ha hne hv => ⟨rfl, ?_⟩, fun i s t => exec_bootEnabled, fun s t h => ?_,
    fun s t hs h hpc => ?_, fun s t hs h hpc => ?_, fun s t => step_bootEnabled_false⟩
  · exact State.memRead_cartridge (State.overlaid_of_latchOff hb a) (by omega)
  · rw [cell_resetWith_lt_0x8000 cfg cart ramInit hne (by omega), List.getD_eq_getElem?_getD, hv, Option.getD_some]
  · have keeps := step_keepsFixedParts h
    exact ⟨congrArg Config.boot keeps.cfg, keeps.rom⟩
  · rw [step_bootEnabled hs h, if_neg hpc]
  · have hoff : t.bootEnabled = false := by rw [step_bootEnabled hs h, if_pos hpc]
    refine ⟨hoff, fun a ha hne => ?_⟩
    rw [State.memRead_cartridge (State.overlaid_of_latchOff hoff a) ha, (step_keepsFixedParts h).rom a ha hne]

end Sys2Proof.Machine
end

section
/-! The decoder and the encoder are inverse (30_encoding R121, R128, R129, R136; O16 to O18). From the bytes to the
instruction and back: what `encode` gives for each shape of instruction that a block of the opcode maps holds, then for a
slot of either table, then for whatever `decode` accepts. From the instruction and back: its bytes start with an opcode byte
that says how many follow. -/

namespace Sys2Proof.Machine

/-! ### The fields of an opcode byte (R122, R123) -/

/-- A byte is the slot of its fields x, y, z. -/
theorem slotByte_fields {op : Byte} {x : Nat} (hx : op.toNat / 64 = x) :
    slotByte x (op.toNat / 8 % 8) (op.toNat % 8) = op := by
  subst hx
  apply BitVec.eq_of_toNat_eq
  have hop := op.isLt
  rw [slotByte, BitVec.toNat_ofNat]
  omega

theorem index_r8 {i : Nat} (h : i < 8) : (r8 i).index = i := by interval_cases i <;> rfl
theorem index_aluOf {i : Nat} (h : i < 8) : (aluOf i).index = i := by interval_cases i <;> rfl
theorem index_rotOf {i : Nat} (h : i < 8) : (rotOf i).index = i := by interval_cases i <;> rfl

theorem loByte_pair (hi lo : Byte) : loByte (pair hi lo) = lo := BitVec.extractLsb'_append_eq_right

theorem hiByte_pair (hi lo : Byte) : hiByte (pair hi lo) = hi := BitVec.extractLsb'_append_eq_left

/-! ### The bytes of the regular blocks -/

/-- Block 1 of the primary table; HALT stands where both operands would be (HL). -/
theorem encode_ldForm (x y : Operand8) : encode (ldForm x y) = [slotByte 1 x.index y.index] :=
  match x, y with
  | .reg q, .reg r => by cases q <;> cases r <;> rfl
  | .reg q, .atHL => by cases q <;> rfl
  | .atHL, .reg r => by cases r <;> rfl
  | .atHL, .atHL => rfl

/-- Block 2 of the primary table. -/
theorem encode_aluForm (k : AluOp) (o : Operand8) : encode (aluForm k o) = [slotByte 2 k.index o.index] := by
  cases o with
  | atHL => cases k <;> rfl
  | reg r => cases k <;> cases r <;> rfl

/-- Block 0 of the extended table. -/
theorem encode_rotForm (k : RotOp) (o : Operand8) : encode (rotForm k o) = [0xCB#8, slotByte 0 k.index o.index] := by
  cases o with
  | atHL => cases k <;> rfl
  | reg r => cases k <;> cases r <;> rfl

/-- Blocks 1, 2 and 3 of the extended table: the field y is the number of the bit. -/
theorem encode_bitForms {b : Nat} (hb : b < 8) (o : Operand8) :
    encode (bitForm b o) = [0xCB#8, slotByte 1 b o.index] ∧ encode (resForm b o) = [0xCB#8, slotByte 2 b o.index] ∧
      encode (setForm b o) = [0xCB#8, slotByte 3 b o.index] := by
  cases o with
  | atHL => interval_cases b <;> exact ⟨rfl, rfl, rfl⟩
  | reg r => cases r <;> interval_cases b <;> exact ⟨rfl, rfl, rfl⟩

/-! ### The bytes of a slot -/

/-- Of the two bytes after a primary opcode byte, those that belong to the instruction. -/
def operandBytes (op b1 b2 : Byte) : List Byte := [b1, b2].take (operandCount op)

/-- Block 0 of the primary table, slot by slot; the two bytes after the opcode byte are given as one word. -/
theorem encode_decodeBlock0 {y z : Nat} (hy : y < 8) (hz : z < 8) (n16 : Addr) :
    encode (decodeBlock0 y z (loByte n16) n16) =
      slotByte 0 y z :: operandBytes (slotByte 0 y z) (loByte n16) (hiByte n16) := by
  interval_cases z <;> interval_cases y <;> rfl

/-- Block 3 of the primary table, slot by slot. -/
theorem encode_decodeBlock3 {y z : Nat} (hy : y < 8) (hz : z < 8) (n16 : Addr) :
    encode (decodeBlock3 y z (loByte n16) n16) =
      slotByte 3 y z :: operandBytes (slotByte 3 y z) (loByte n16) (hiByte n16) := by
  interval_cases z <;> interval_cases y <;> rfl

/-- Blocks 1 and 2 hold no operand bytes. -/
theorem operandBytes_of_regular {op : Byte} (h : op.toNat / 64 = 1 ∨ op.toNat / 64 = 2) (b1 b2 : Byte) :
    operandBytes op b1 b2 = [] := by
  obtain h | h := h <;> simp [operandBytes, operandCount, h]

theorem encode_decodePrimary (op b1 b2 : Byte) : encode (decodePrimary op b1 b2) = op :: operandBytes op b1 b2 := by
  have hx : op.toNat / 64 < 4 := Nat.div_lt_of_lt_mul op.isLt
  have hy : op.toNat / 8 % 8 < 8 := Nat.mod_lt _ (by decide)
  have hz : op.toNat % 8 < 8 := Nat.mod_lt _ (by decide)
  interval_cases hblock : op.toNat / 64 <;> simp only [decodePrimary, hblock]
  · have h := encode_decodeBlock0 hy hz (pair b2 b1)
    rwa [loByte_pair, hiByte_pair, slotByte_fields hblock] at h
  · rw [encode_ldForm, index_r8 hy, index_r8 hz, slotByte_fields hblock, operandBytes_of_regular (.inl hblock)]
  · rw [encode_aluForm, index_aluOf hy, index_r8 hz, slotByte_fields hblock, operandBytes_of_regular (.inr hblock)]
  · have h := encode_decodeBlock3 hy hz (pair b2 b1)
    rwa [loByte_pair, hiByte_pair, slotByte_fields hblock] at h

theorem encode_decodeExtended (ext : Byte) : encode (decodeExtended ext) = [0xCB#8, ext] := by
  have hx : ext.toNat / 64 < 4 := Nat.div_lt_of_lt_mul ext.isLt
  have hy : ext.toNat / 8 % 8 < 8 := Nat.mod_lt _ (by decide)
  have hz : ext.toNat % 8 < 8 := Nat.mod_lt _ (by decide)
  obtain ⟨hbit, hres, hset⟩ := encode_bitForms hy (r8 (ext.toNat % 8))
  interval_cases hblock : ext.toNat / 64 <;> simp only [decodeExtended, hblock]
  · rw [encode_rotForm, index_rotOf hy, index_r8 hz, slotByte_fields hblock]
  · rw [hbit, index_r8 hz, slotByte_fields hblock]
  · rw [hres, index_r8 hz, slotByte_fields hblock]
  · rw [hset, index_r8 hz, slotByte_fields hblock]

/-! ### Bytes that decode -/

/-- Whatever `decode` accepts is the slot 0xCB alone, an extended slot, or a primary slot with its operand bytes. -/
theorem decode_ok {bytes rest : List Byte} {i : Instr} (h : decode bytes = .ok (i, rest)) :
    (bytes = [0xCB#8] ∧ i = .cbPrefix ∧ rest = []) ∨
    (∃ ext, bytes = 0xCB#8 :: ext :: rest ∧ i = decodeExtended ext) ∨
    (∃ op b1 b2, op ≠ 0xCB#8 ∧ bytes = op :: operandBytes op b1 b2 ++ rest ∧ i = decodePrimary op b1 b2) := by
  unfold decode at h
  split at h
  · cases h
  · next op after =>
    split at h
    · next hop =>
      subst hop
      split at h <;> cases h
      · exact .inl ⟨rfl, rfl, rfl⟩
      · exact .inr (.inl ⟨_, rfl, rfl⟩)
    · next hop =>
      split at h <;> cases h
      all_goals
        next hcount => exact .inr (.inr ⟨_, _, _, hop, by rw [operandBytes, hcount]; rfl, rfl⟩)

/-- The bytes that `decode` read are the instruction's own, the slot 0xCB alone included. -/
theorem eq_encode_append_of_decode {bytes rest : List Byte} {i : Instr} (h : decode bytes = .ok (i, rest)) :
    bytes = encode i ++ rest := by
  obtain ⟨rfl, rfl, rfl⟩ | ⟨ext, rfl, rfl⟩ | ⟨op, b1, b2, -, rfl, rfl⟩ := decode_ok h
  · rfl
  · rw [encode_decodeExtended]; rfl
  · rw [encode_decodePrimary]

/-- Settles O17: the bytes of each slot that `decode` may have read are its instruction's encoding. -/
theorem encodeOfDecodeIsTheBytes : Obligations.EncodeOfDecodeIsTheBytes :=
  fun _ _ _ h _ => eq_encode_append_of_decode h

/-! ### Instructions that encode -/

/-- The opcode byte of an instruction says how many bytes to read and which instruction they are; a 16-bit operand is put
together again from its two bytes. -/
theorem decode_encode_append (i : Instr) (hw : i.wellFormed = true) (rest : List Byte) :
    decode (encode i ++ rest) = .ok (i, rest) := by
  cases i with
  | cbPrefix => cases hw
  | ld_BC_n16 n16 | ld_DE_n16 n16 | ld_HL_n16 n16 | ld_SP_n16 n16 | ld_atN16_SP n16 | ld_atN16_A n16 | ld_A_atN16 n16
  | jp_n16 n16 | jp_NZ_n16 n16 | jp_Z_n16 n16 | jp_NC_n16 n16 | jp_C_n16 n16
  | call_n16 n16 | call_NZ_n16 n16 | call_Z_n16 n16 | call_NC_n16 n16 | call_C_n16 n16 =>
    conv_rhs => rw [← pair_hiByte_loByte n16]
    rfl
  | _ => rfl

/-- Settles O16: by the instruction, its operand being none, a byte or a word. -/
theorem decodeOfEncodeIsTheInstruction : Obligations.DecodeOfEncodeIsTheInstruction := decode_encode_append

/-- Settles O18: the bytes are literals, so each word is looked up in the map by evaluation. -/
theorem wordsOfTheMapDecode : Obligations.WordsOfTheMapDecode := by
  unfold Obligations.WordsOfTheMapDecode
  and_intros <;> rfl

end Sys2Proof.Machine
end

section
/-! The flags as bits of F, and the closed forms of the 8-bit arithmetic and logic (10_state R24 to R26, 40_alu8 R150 to
R154, R183, R188; O27 to O31). -/

namespace Sys2Proof.Machine

/-! ### Flags -/

/-- A packed F holds each flag in its bit (10_state R26). -/
theorem packFlags_bits : ∀ z n h c : Bool,
    (packFlags z n h c).getLsbD 7 = z ∧ (packFlags z n h c).getLsbD 6 = n ∧ (packFlags z n h c).getLsbD 5 = h ∧
      (packFlags z n h c).getLsbD 4 = c := by decide

/-- Z from a result, as a choice between two values of F. -/
theorem packFlags_beq_zero (v : Byte) (n h c : Bool) :
    packFlags (v == 0#8) n h c = if v = 0#8 then packFlags true n h c else packFlags false n h c := by
  by_cases hv : v = 0#8
  · rw [if_pos hv, beq_iff_eq.mpr hv]
  · rw [if_neg hv, beq_false_of_ne hv]

/-- A masked write changes the bits of the mask alone (10_state R26). -/
theorem putMask_getLsbD (v mask : Byte) (b : Bool) {i : Nat} (hi : i < 8) :
    (putMask v mask b).getLsbD i = if mask.getLsbD i then b else v.getLsbD i := by
  cases b <;> cases h : mask.getLsbD i <;> simp [putMask, -BitVec.getLsbD_eq_getElem, h, hi]

/-- A mask with a clear low nibble keeps the low nibble. -/
theorem putMask_lowNibble (v : Byte) {mask : Byte} (b : Bool) (hmask : mask &&& 0x0F#8 = 0#8) :
    putMask v mask b &&& 0x0F#8 = v &&& 0x0F#8 := by
  have hkeep : ~~~mask &&& 0x0F#8 = 0x0F#8 := by
    have h : 0x0F#8 = ~~~mask &&& 0x0F#8 ||| mask &&& 0x0F#8 := by
      rw [← BitVec.and_or_distrib_right, BitVec.or_comm, BitVec.or_not_self, BitVec.allOnes_and]
    rw [hmask, BitVec.or_zero] at h
    exact h.symm
  cases b with
  | true => rw [putMask, if_pos rfl, BitVec.and_or_distrib_right, hmask, BitVec.or_zero]
  | false => rw [putMask, if_neg Bool.false_ne_true, BitVec.and_assoc, hkeep]

@[simp] theorem State.zf_setZ (s : State) (b : Bool) : (s.setZ b).zf = b := putMask_getLsbD _ _ _ (by decide)
@[simp] theorem State.nf_setZ (s : State) (b : Bool) : (s.setZ b).nf = s.nf := putMask_getLsbD _ _ _ (by decide)
@[simp] theorem State.hf_setZ (s : State) (b : Bool) : (s.setZ b).hf = s.hf := putMask_getLsbD _ _ _ (by decide)
@[simp] theorem State.cf_setZ (s : State) (b : Bool) : (s.setZ b).cf = s.cf := putMask_getLsbD _ _ _ (by decide)
@[simp] theorem State.zf_setN (s : State) (b : Bool) : (s.setN b).zf = s.zf := putMask_getLsbD _ _ _ (by decide)
@[simp] theorem State.nf_setN (s : State) (b : Bool) : (s.setN b).nf = b := putMask_getLsbD _ _ _ (by decide)
@[simp] theorem State.hf_setN (s : State) (b : Bool) : (s.setN b).hf = s.hf := putMask_getLsbD _ _ _ (by decide)
@[simp] theorem State.cf_setN (s : State) (b : Bool) : (s.setN b).cf = s.cf := putMask_getLsbD _ _ _ (by decide)
@[simp] theorem State.zf_setH (s : State) (b : Bool) : (s.setH b).zf = s.zf := putMask_getLsbD _ _ _ (by decide)
@[simp] theorem State.nf_setH (s : State) (b : Bool) : (s.setH b).nf = s.nf := putMask_getLsbD _ _ _ (by decide)
@[simp] theorem State.hf_setH (s : State) (b : Bool) : (s.setH b).hf = b := putMask_getLsbD _ _ _ (by decide)
@[simp] theorem State.cf_setH (s : State) (b : Bool) : (s.setH b).cf = s.cf := putMask_getLsbD _ _ _ (by decide)
@[simp] theorem State.zf_setC (s : State) (b : Bool) : (s.setC b).zf = s.zf := putMask_getLsbD _ _ _ (by decide)
@[simp] theorem State.nf_setC (s : State) (b : Bool) : (s.setC b).nf = s.nf := putMask_getLsbD _ _ _ (by decide)
@[simp] theorem State.hf_setC (s : State) (b : Bool) : (s.setC b).hf = s.hf := putMask_getLsbD _ _ _ (by decide)
@[simp] theorem State.cf_setC (s : State) (b : Bool) : (s.setC b).cf = b := putMask_getLsbD _ _ _ (by decide)

@[simp] theorem State.lowNibble_setZ (s : State) (b : Bool) : (s.setZ b).f &&& 0x0F#8 = s.f &&& 0x0F#8 :=
  putMask_lowNibble _ _ (by decide)
@[simp] theorem State.lowNibble_setN (s : State) (b : Bool) : (s.setN b).f &&& 0x0F#8 = s.f &&& 0x0F#8 :=
  putMask_lowNibble _ _ (by decide)
@[simp] theorem State.lowNibble_setH (s : State) (b : Bool) : (s.setH b).f &&& 0x0F#8 = s.f &&& 0x0F#8 :=
  putMask_lowNibble _ _ (by decide)
@[simp] theorem State.lowNibble_setC (s : State) (b : Bool) : (s.setC b).f &&& 0x0F#8 = s.f &&& 0x0F#8 :=
  putMask_lowNibble _ _ (by decide)

/-! ### Addition and subtraction -/

/-- The carry-in or borrow-in of an operation with carry is the flag C. -/
theorem toNat_and_cf (withCarry : Prop) [Decidable withCarry] (s : State) :
    (decide withCarry && s.cf).toNat = if withCarry ∧ s.cf = true then 1 else 0 := by
  by_cases hw : withCarry <;> cases s.cf <;> simp [hw]

/-- The sum of two nibbles carries exactly when its bit 4 is set. -/
theorem testBit_four_nibble_sum (m n : Nat) : (m % 16 + n % 16).testBit 4 = decide (0xF < m % 16 + n % 16) := by
  rw [Nat.testBit_eq_decide_div_mod_eq, decide_eq_decide]
  omega

/-- The state after an addition with a carry-in, in closed form (40_alu8 R150). -/
def State.added (s : State) (v : Byte) (carry : Bool) : State :=
  let sum := s.a.toNat + v.toNat + carry.toNat
  { s with
    a := BitVec.ofNat 8 sum
    f := packFlags (BitVec.ofNat 8 sum == 0#8) false (decide (0xF < s.a.toNat % 16 + v.toNat % 16))
      (decide (0xFF < sum)) }

theorem addA_eq (withCarry : Bool) (v : Byte) (s : State) : addA withCarry v s = s.added v (withCarry && s.cf) := by
  have hcin : (if (withCarry && s.cf) = true then 1 else 0) = (withCarry && s.cf).toNat := by
    cases withCarry && s.cf <;> rfl
  simp only [addA, hcin, testBit_four_nibble_sum, ← Nat.add_assoc]
  rfl

/-- Settles O27, from the closed form of `add_a`. -/
theorem addSetsSumAndFlags : Obligations.AddSetsSumAndFlags := by
  intro s v k hk
  have halu : alu k v s = s.added v (decide (k = .adc) && s.cf) := by obtain rfl | rfl := hk <;> exact addA_eq _ v s
  dsimp only
  rw [halu, ← toNat_and_cf]
  exact ⟨rfl, rfl, packFlags_bits _ _ _ _, packFlags_clean _ _ _ _⟩

/-- The 16-bit difference of `do_sub` and `sbc_a`, with the borrow-in as a byte (40_alu8 R151, R153). -/
def wideDifference (x y : Byte) (borrow : Bool) : Addr :=
  x.setWidth 16 - y.setWidth 16 - (bitByte borrow).setWidth 16

theorem toNat_wideDifference (x y : Byte) (borrow : Bool) :
    (wideDifference x y borrow).toNat = (x.toNat + (65536 - y.toNat) + (65536 - borrow.toNat)) % 65536 := by
  have hx := x.isLt
  have hy := y.isLt
  have hb : (bitByte borrow).toNat = borrow.toNat := by cases borrow <;> rfl
  have hb1 := borrow.toNat_le
  simp only [wideDifference, BitVec.toNat_sub, BitVec.toNat_setWidth, hb]
  omega

theorem loByte_wideDifference (x y : Byte) (borrow : Bool) :
    loByte (wideDifference x y borrow) = BitVec.ofInt 8 ((x.toNat : Int) - y.toNat - borrow.toNat) := by
  have hx := x.isLt
  have hy := y.isLt
  have hb := borrow.toNat_le
  apply BitVec.eq_of_toNat_eq
  rw [loByte_eq_ofNat, toNat_wideDifference, BitVec.toNat_ofNat, BitVec.toNat_ofInt]
  omega

/-- A bit of the xor of three words is the parity of their quotients by its place value. -/
theorem getLsbD_xor_xor (x y z : Addr) (i : Nat) :
    (x ^^^ y ^^^ z).getLsbD i = decide ((x.toNat / 2 ^ i + y.toNat / 2 ^ i + z.toNat / 2 ^ i) % 2 = 1) := by
  have parity_xor (m n : Nat) : (decide (m % 2 = 1) ^^ decide (n % 2 = 1)) = decide ((m + n) % 2 = 1) := by
    rw [Bool.eq_iff_iff]
    simp
    omega
  rw [BitVec.getLsbD_xor, BitVec.getLsbD_xor]
  simp only [BitVec.getLsbD, Nat.testBit_eq_decide_div_mod_eq, parity_xor]

/-- Bits 4 and 8 of the xor are the borrows into the low nibble and into the byte (40_alu8 R151, R153). -/
theorem borrows_wideDifference (x y : Byte) (borrow : Bool) :
    let cb := x.setWidth 16 ^^^ y.setWidth 16 ^^^ wideDifference x y borrow
    cb.getLsbD 4 = decide (x.toNat % 16 < y.toNat % 16 + borrow.toNat) ∧
      cb.getLsbD 8 = decide (x.toNat < y.toNat + borrow.toNat) := by
  have hx := x.isLt
  have hy := y.isLt
  have hb := borrow.toNat_le
  constructor <;>
  · rw [getLsbD_xor_xor, toNat_wideDifference, decide_eq_decide]
    simp only [BitVec.toNat_setWidth]
    omega

/-- The state after a subtraction with a borrow-in, in closed form (40_alu8 R151, R153). -/
def State.subtracted (s : State) (v : Byte) (borrow : Bool) : State :=
  let difference := BitVec.ofInt 8 ((s.a.toNat : Int) - v.toNat - borrow.toNat)
  { s with
    a := difference
    f := packFlags (difference == 0#8) true (decide (s.a.toNat % 16 < v.toNat % 16 + borrow.toNat))
      (decide (s.a.toNat < v.toNat + borrow.toNat)) }

theorem sbcA_eq (v : Byte) (s : State) : sbcA v s = s.subtracted v s.cf := by
  obtain ⟨hhalf, hfull⟩ := borrows_wideDifference s.a v s.cf
  rw [State.subtracted, ← loByte_wideDifference, ← hhalf, ← hfull]
  rfl

/-- `do_sub` is the subtraction without a borrow-in (40_alu8 R151). -/
theorem doSub_eq (v : Byte) (s : State) : doSub v s = s.subtracted v false := by
  obtain ⟨hhalf, hfull⟩ := borrows_wideDifference s.a v false
  have hdiff : s.a.setWidth 16 - v.setWidth 16 = wideDifference s.a v false := (BitVec.sub_zero _).symm
  rw [doSub, State.subtracted, hdiff, ← loByte_wideDifference, ← hhalf, ← hfull]
  rfl

/-- `cmp_a_with` sets the flags of `do_sub` (40_alu8 R152). -/
theorem cmpA_eq (v : Byte) (s : State) : cmpA v s = { s with f := (s.subtracted v false).f } := by
  have hdiff : s.a - v = BitVec.ofInt 8 ((s.a.toNat : Int) - v.toNat - false.toNat) := by
    rw [← loByte_wideDifference]
    apply BitVec.eq_of_toNat_eq
    have hx := s.a.isLt
    have hy := v.isLt
    rw [loByte_eq_ofNat, toNat_wideDifference, BitVec.toNat_sub, BitVec.toNat_ofNat, Bool.toNat_false]
    omega
  rw [cmpA, hdiff]
  rfl

/-- Settles O28: `do_sub` and `sbc_a` are the subtraction in closed form, `cmp_a_with` its flags. -/
theorem subtractSetsDifferenceAndBorrows : Obligations.SubtractSetsDifferenceAndBorrows := by
  intro s v
  constructor
  · intro k hk
    have halu : alu k v s = s.subtracted v (decide (k = .sbc) && s.cf) := by
      obtain rfl | rfl := hk
      · exact doSub_eq v s
      · exact sbcA_eq v s
    have hcin : (if k = .sbc ∧ s.cf = true then 1 else 0 : Int) = (decide (k = .sbc) && s.cf).toNat := by
      rw [toNat_and_cf]; split <;> rfl
    dsimp only
    rw [halu, hcin]
    refine ⟨rfl, rfl, ?_, packFlags_clean _ _ _ _⟩
    norm_cast
    exact packFlags_bits _ _ _ _
  · rw [alu, alu, cmpA_eq, doSub_eq]

/-! ### Logic, increment and decrement -/

/-- Settles O29: F is packed from the result, in two cases. -/
theorem logicSetsResultAndFlags : Obligations.LogicSetsResultAndFlags := by
  intro s v
  simp only [alu, andA, xorA, orA, State.setFlags, packFlags_beq_zero]
  exact ⟨rfl, rfl, rfl⟩

theorem inc8Flags_flagsAre (pre : Byte) (s : State) :
    (inc8Flags pre s).flagsAre (pre == 0xFF#8) false (incH s.cfg.incDecHMode pre) s.cf := by
  simp [State.flagsAre, inc8Flags]

theorem dec8Flags_flagsAre (pre : Byte) (s : State) :
    (dec8Flags pre s).flagsAre (pre == 0x01#8) true (decH s.cfg.incDecHMode pre) s.cf := by
  simp [State.flagsAre, dec8Flags]

/-- Settles O30: each flag but C is written once, the low nibble not at all. -/
theorem incDecFlagsComeFromTheOldValue : Obligations.IncDecFlagsComeFromTheOldValue := fun s pre =>
  ⟨⟨rfl, by simp [inc8Flags], inc8Flags_flagsAre pre s⟩, ⟨rfl, by simp [dec8Flags], dec8Flags_flagsAre pre s⟩⟩

/-! ### Decimal adjustment (40_alu8 R188) -/

/-- DAA corrects the low digit. -/
def State.daaLow (s : State) : Bool := if s.nf then s.hf else s.hf || decide (9 < s.a.toNat % 16)

/-- DAA corrects the high digit. -/
def State.daaHigh (s : State) : Bool := if s.nf then s.cf else s.cf || decide (0x99 < s.a.toNat)

/-- What DAA adds to A or subtracts from it. -/
def State.daaCorrection (s : State) : Byte :=
  (if s.daaLow then 0x06#8 else 0x00#8) ||| (if s.daaHigh then 0x60#8 else 0x00#8)

theorem toNat_daaCorrection (s : State) : s.daaCorrection.toNat = 6 * s.daaLow.toNat + 96 * s.daaHigh.toNat := by
  unfold State.daaCorrection
  cases s.daaLow <;> cases s.daaHigh <;> rfl

theorem daaA_a (s : State) : (daaA s).a = if s.nf then s.a - s.daaCorrection else s.a + s.daaCorrection := rfl

theorem daaA_frame (s : State) : daaA s = { s with a := (daaA s).a, f := (daaA s).f } := rfl

theorem daaA_lowNibble (s : State) : (daaA s).f &&& 0x0F#8 = s.f &&& 0x0F#8 := by
  simp [daaA]

/-- DAA takes Z from the result, keeps N, clears H and sets C with the high correction. -/
theorem daaA_flagsAre (s : State) : (daaA s).flagsAre ((daaA s).a == 0#8) s.nf false s.daaHigh := by
  have hc : (if s.nf then s.cf else s.daaHigh) = s.daaHigh := by
    unfold State.daaHigh
    cases s.nf <;> rfl
  refine ⟨?_, ?_, ?_, (State.cf_setC _ _).trans hc⟩
  · simp only [daaA, State.zf_setC, State.zf_setH, State.zf_setZ]; rfl
  · simp only [daaA, State.nf_setC, State.nf_setH, State.nf_setZ]; rfl
  · simp only [daaA, State.hf_setC, State.hf_setH]

theorem added_flagsAre (s : State) (v : Byte) (carry : Bool) :
    (s.added v carry).flagsAre ((s.added v carry).a == 0#8) false (decide (0xF < s.a.toNat % 16 + v.toNat % 16))
      (decide (0xFF < s.a.toNat + v.toNat + carry.toNat)) := packFlags_bits _ _ _ _

theorem added_a_toNat (s : State) (v : Byte) : (s.added v false).a.toNat = (s.a.toNat + v.toNat) % 256 :=
  BitVec.toNat_ofNat _ _

theorem subtracted_flagsAre (s : State) (v : Byte) (borrow : Bool) :
    (s.subtracted v borrow).flagsAre ((s.subtracted v borrow).a == 0#8) true
      (decide (s.a.toNat % 16 < v.toNat % 16 + borrow.toNat)) (decide (s.a.toNat < v.toNat + borrow.toNat)) :=
  packFlags_bits _ _ _ _

theorem subtracted_a_toNat (s : State) (v : Byte) :
    (s.subtracted v false).a.toNat = (s.a.toNat + 256 - v.toNat) % 256 := by
  have hv := v.isLt
  simp only [State.subtracted, BitVec.toNat_ofInt, Bool.toNat_false]
  omega

/-- The byte of two decimal digits, the last two of a number. -/
def decimalByte (n : Nat) : Byte := BitVec.ofNat 8 (16 * (n / 10 % 10) + n % 10)

theorem toNat_decimalByte (n : Nat) : (decimalByte n).toNat = 16 * (n / 10 % 10) + n % 10 := by
  rw [decimalByte, BitVec.toNat_ofNat]
  omega

/-- A number of two digits and its byte differ by 6 for each ten. -/
theorem toNat_decimalByte_of_lt {n : Nat} (h : n < 100) : (decimalByte n).toNat = n + 6 * (n / 10) := by
  rw [toNat_decimalByte]
  omega

theorem decimalByte_beq_zero (n : Nat) : (decimalByte n == 0#8) = decide (n % 100 = 0) := by
  rw [Bool.eq_iff_iff, beq_iff_eq, decide_eq_true_iff, ← BitVec.toNat_inj, toNat_decimalByte, BitVec.toNat_ofNat]
  omega

theorem decimal_carry_iff (x y : Nat) : 0x99 < x + 6 * (x / 10) + (y + 6 * (y / 10)) ↔ 100 ≤ x + y := by omega

section
variable {s : State} {x y : Nat} (hx : x < 100) (hy : y < 100) (ha : s.a = decimalByte x)
include hx hy

/-- The binary sum with 6 for a carry of the low digit and 96 for one of the high digit is the decimal sum. -/
theorem corrected_decimal_sum :
    x + 6 * (x / 10) + (y + 6 * (y / 10)) +
        (6 * (decide (10 ≤ x % 10 + y % 10)).toNat + 96 * (decide (100 ≤ x + y)).toNat) =
      16 * ((x + y) / 10 % 10) + (x + y) % 10 + 256 * (decide (100 ≤ x + y)).toNat := by
  simp only [Bool.toNat, Bool.cond_decide]
  split <;> split <;> omega

/-- The binary difference less 6 for a borrow of the low digit and 96 for one of the high digit is the decimal one. -/
theorem corrected_decimal_difference :
    x + 6 * (x / 10) + 256 * (decide (x < y)).toNat =
      16 * ((x + 100 - y) / 10 % 10) + (x + 100 - y) % 10 + (y + 6 * (y / 10)) +
        (6 * (decide (x % 10 < y % 10)).toNat + 96 * (decide (x < y)).toNat) := by
  simp only [Bool.toNat, Bool.cond_decide]
  split <;> split <;> omega

include ha

/-- After an addition of decimal numbers DAA corrects a digit exactly when its decimal sum carries. -/
theorem daa_corrections_added :
    (s.added (decimalByte y) false).daaLow = decide (10 ≤ x % 10 + y % 10) ∧
      (s.added (decimalByte y) false).daaHigh = decide (100 ≤ x + y) := by
  obtain ⟨-, hn, hh, hc⟩ := added_flagsAre s (decimalByte y) false
  have hsum := added_a_toNat s (decimalByte y)
  rw [ha, toNat_decimalByte_of_lt hx, toNat_decimalByte_of_lt hy] at hsum hh hc
  constructor
  · rw [State.daaLow, hn, hh, hsum, if_neg Bool.false_ne_true, ← Bool.decide_or, decide_eq_decide]
    omega
  · rw [State.daaHigh, hn, hc, hsum, if_neg Bool.false_ne_true, ← Bool.decide_or, decide_eq_decide,
      ← decimal_carry_iff, Bool.toNat_false]
    omega

theorem daaA_added_a : (daaA (s.added (decimalByte y) false)).a = decimalByte (x + y) := by
  obtain ⟨hlow, hhigh⟩ := daa_corrections_added hx hy ha
  obtain ⟨-, hn, -, -⟩ := added_flagsAre s (decimalByte y) false
  rw [daaA_a, hn, if_neg Bool.false_ne_true]
  apply BitVec.eq_of_toNat_eq
  rw [BitVec.toNat_add, added_a_toNat, toNat_daaCorrection, hlow, hhigh, ha, toNat_decimalByte_of_lt hx,
    toNat_decimalByte_of_lt hy, Nat.mod_add_mod, corrected_decimal_sum hx hy, toNat_decimalByte]
  omega

/-- After a subtraction of decimal numbers DAA corrects a digit exactly when its decimal difference borrows. -/
theorem daa_corrections_subtracted :
    (s.subtracted (decimalByte y) false).daaLow = decide (x % 10 < y % 10) ∧
      (s.subtracted (decimalByte y) false).daaHigh = decide (x < y) := by
  obtain ⟨-, hn, hh, hc⟩ := subtracted_flagsAre s (decimalByte y) false
  rw [ha, toNat_decimalByte_of_lt hx, toNat_decimalByte_of_lt hy, Bool.toNat_false] at hh hc
  constructor
  · rw [State.daaLow, hn, hh, if_pos rfl, decide_eq_decide]
    omega
  · rw [State.daaHigh, hn, hc, if_pos rfl, decide_eq_decide]
    omega

theorem daaA_subtracted_a : (daaA (s.subtracted (decimalByte y) false)).a = decimalByte (x + 100 - y) := by
  obtain ⟨hlow, hhigh⟩ := daa_corrections_subtracted hx hy ha
  obtain ⟨-, hn, -, -⟩ := subtracted_flagsAre s (decimalByte y) false
  have hdecimal := corrected_decimal_difference hx hy
  rw [daaA_a, hn, if_pos rfl, eq_comm, BitVec.eq_sub_iff_add_eq]
  apply BitVec.eq_of_toNat_eq
  rw [BitVec.toNat_add, subtracted_a_toNat, toNat_daaCorrection, hlow, hhigh, ha, toNat_decimalByte_of_lt hx,
    toNat_decimalByte_of_lt hy, toNat_decimalByte]
  omega

end

/-- Settles O31, with the numbers of two digits taken whole. -/
theorem daaCorrectsDecimalSumAndDifference : Obligations.DaaCorrectsDecimalSumAndDifference := by
  intro s x1 x0 y1 y0 x y decimal ha
  have hx : x < 100 := by have := x1.isLt; have := x0.isLt; omega
  have hy : y < 100 := by have := y1.isLt; have := y0.isLt; omega
  have ha : s.a = decimalByte x := ha
  constructor
  · have hdaa := daaA_added_a hx hy ha
    obtain ⟨hz, -, -, hc⟩ := daaA_flagsAre (s.added (decimalByte y) false)
    rw [hdaa, decimalByte_beq_zero] at hz
    rw [(daa_corrections_added hx hy ha).2] at hc
    rw [show alu .add (decimal y) s = s.added (decimalByte y) false from addA_eq false _ s]
    exact ⟨hdaa, hc, hz⟩
  · have hdaa := daaA_subtracted_a hx hy ha
    obtain ⟨hz, -, -, hc⟩ := daaA_flagsAre (s.subtracted (decimalByte y) false)
    have heq : (x + 100 - y) % 100 = 0 ↔ x = y := by omega
    rw [hdaa, decimalByte_beq_zero, decide_eq_decide.mpr heq] at hz
    rw [(daa_corrections_subtracted hx hy ha).2] at hc
    rw [show alu .sub (decimal y) s = s.subtracted (decimalByte y) false from doSub_eq _ s]
    exact ⟨hdaa, hc, hz⟩

end Sys2Proof.Machine
end

section
/-! How an instruction answers: the frame around an operation, and around an operand that is read, changed and written back
(41_dispatch R200, R204; 45_rotate_bit R304). -/

namespace Sys2Proof.Machine

/-! ### The frame of an instruction -/

theorem State.cyc_advance (s : State) (n : Nat) (table : Table) (opcode : Byte) (taken : Bool) (cycles : Nat) :
    (s.advance n).cyc table opcode taken cycles = s.past n table opcode taken cycles := rfl

@[simp] theorem State.reg_advance (s : State) (n : Nat) (r : Reg8) : (s.advance n).reg r = s.reg r := by cases r <;> rfl
@[simp] theorem State.hl_advance (s : State) (n : Nat) : (s.advance n).hl = s.hl := rfl

theorem State.cyc_setReg (s : State) (r : Reg8) (v : Byte) (table : Table) (opcode : Byte) (taken : Bool) (n : Nat) :
    (s.setReg r v).cyc table opcode taken n = (s.cyc table opcode taken n).setReg r v := by cases r <;> rfl

theorem State.cyc_store (s : State) (a : Addr) (v : Byte) (table : Table) (opcode : Byte) (taken : Bool) (n : Nat) :
    (s.store a v).cyc table opcode taken n = (s.cyc table opcode taken n).store a v := by
  simp only [State.store]
  split <;> rfl

/-- A read that is turned down (20_memory R62). -/
theorem State.memRead_bad {s : State} {a : Addr} (h : s.canRead a = false) : s.memRead a = .error ⟨.read, a, s⟩ := by
  simp [State.memRead_eq, h]

theorem stops_raise (e : FatalError) (s : State) : Stops (raise e s) e := by cases e <;> exact ⟨rfl, rfl⟩

/-- An instruction whose operation makes an access that is turned down stops with that access's record. -/
theorem execSlot_stops {table : Table} {opcode : Byte} {n : Nat} {op : State → Micro State} {s : State} {x : BadAccess}
    (hm : s.cfg.models table opcode = true) (h : op (s.advance n) = .error x) :
    Stops (execSlot table opcode n op s) (x.record s.pc) := by
  rw [execSlot_bad hm h]
  exact stops_raise _ _

/-! ### An operand that is read and written back -/

/-- The operation that reads an operand, writes `new` of it back, and then changes flags by `flagsOf`: INC, DEC, the rotates
and shifts, RES and SET (40_alu8 R184 to R187, 45_rotate_bit R304). Both may look at the state before the write. -/
def modifyOperand (table : Table) (opcode : Byte) (cycles : Nat) (o : Operand8) (new : State → Byte → Byte)
    (flagsOf : State → Byte → State → State) (s : State) : Micro State := do
  let v ← s.readOperand o
  let u ← s.writeOperand o (new s v)
  .ok ((flagsOf s v u).cyc table opcode false cycles)

section
variable {table : Table} {opcode : Byte} {length cycles : Nat} {new : State → Byte → Byte}
  {flagsOf : State → Byte → State → State} {s : State} (hm : s.cfg.models table opcode = true)
include hm

/-- An operand in a register, where the flags do not touch the cost. -/
theorem modifyOperand_reg_result (r : Reg8)
    (hcyc : ∀ t v u, (flagsOf t v u).cyc table opcode false cycles = flagsOf t v (u.cyc table opcode false cycles)) :
    let w := new (s.advance length) (s.reg r)
    execSlot table opcode length (modifyOperand table opcode cycles (.reg r) new flagsOf) s =
      .next (flagsOf (s.advance length) (s.reg r) ((s.past length table opcode false cycles).setReg r w)) := by
  refine execSlot_ok hm ?_
  rw [← State.cyc_advance, ← State.cyc_setReg, ← hcyc, ← State.reg_advance s length r]
  rfl

theorem modifyOperand_atHL_next (hr : s.canRead s.hl = true) (hw : s.canWrite s.hl = true) :
    execSlot table opcode length (modifyOperand table opcode cycles .atHL new flagsOf) s =
      let t := s.advance length
      let v := s.byteAt s.hl
      .next ((flagsOf t v (t.store s.hl (new t v))).cyc table opcode false cycles) := by
  refine execSlot_ok hm ?_
  simp [modifyOperand, State.readOperand, State.writeOperand, State.memRead_eq, State.memWrite_eq, hr, hw, bind,
    Except.bind]

theorem modifyOperand_unreadable_stops (hr : s.canRead s.hl = false) :
    Stops (execSlot table opcode length (modifyOperand table opcode cycles .atHL new flagsOf) s)
      (.unimplementedMemoryAccess .read s.hl s.pc) := by
  refine execSlot_stops (x := ⟨.read, s.hl, s.advance length⟩) hm ?_
  simp [modifyOperand, State.readOperand, State.memRead_eq, hr, bind, Except.bind]

theorem modifyOperand_unwritable_stops (hr : s.canRead s.hl = true) (hw : s.canWrite s.hl = false) :
    Stops (execSlot table opcode length (modifyOperand table opcode cycles .atHL new flagsOf) s)
      (.unimplementedMemoryAccess (.write (new (s.advance length) (s.byteAt s.hl))) s.hl s.pc) := by
  refine execSlot_stops (x := ⟨.write _, s.hl, s.advance length⟩) hm ?_
  simp [modifyOperand, State.readOperand, State.writeOperand, State.memRead_eq, State.memWrite_eq, hr, hw, bind,
    Except.bind]

/-- An operand at HL where the flags touch neither memory nor the cost: the next state, or which access stops it. -/
theorem modifyOperand_atHL_result
    (hcyc : ∀ t v u, (flagsOf t v u).cyc table opcode false cycles = flagsOf t v (u.cyc table opcode false cycles))
    (hmem : ∀ t v u, (flagsOf t v u).mem = u.mem) :
    let r := execSlot table opcode length (modifyOperand table opcode cycles .atHL new flagsOf) s
    let v := s.byteAt s.hl
    let w := new (s.advance length) v
    let t := flagsOf (s.advance length) v ((s.past length table opcode false cycles).store s.hl w)
    (s.canRead s.hl = true → s.canWrite s.hl = true →
      r = .next t ∧ ∀ b : Addr, t.cell b = if b = s.hl then w else s.cell b) ∧
    (s.canRead s.hl = false → Stops r (.unimplementedMemoryAccess .read s.hl s.pc)) ∧
    (s.canRead s.hl = true → s.canWrite s.hl = false → Stops r (.unimplementedMemoryAccess (.write w) s.hl s.pc)) := by
  refine ⟨fun hr hw => ⟨?_, fun b => ?_⟩, modifyOperand_unreadable_stops hm, modifyOperand_unwritable_stops hm⟩
  · rw [modifyOperand_atHL_next hm hr hw]
    dsimp only
    rw [hcyc, State.cyc_store, State.cyc_advance]
  · rw [State.cell, hmem]
    exact State.cell_store _ _ _ _

end

end Sys2Proof.Machine
end

section
/-! The instructions of 40_alu8: the accumulator operations on each kind of operand, INC and DEC, DAA, CPL, SCF and CCF
(40_alu8 R155 to R191; O43, O44, O45). -/

namespace Sys2Proof.Machine

/-! ### The accumulator operations -/

/-- Reporting the cost commutes with the operation. -/
theorem alu_cyc (k : AluOp) (v : Byte) (s : State) (table : Table) (opcode : Byte) (taken : Bool) (n : Nat) :
    (alu k v s).cyc table opcode taken n = alu k v (s.cyc table opcode taken n) := by cases k <;> rfl

theorem exec_aluForm_reg (k : AluOp) (r : Reg8) (s : State) :
    exec (aluForm k (.reg r)) s = aluReg k r (slotByte 2 k.index (Operand8.reg r).index) s := by
  cases k <;> cases r <;> rfl

theorem exec_aluForm_atHL (k : AluOp) (s : State) :
    exec (aluForm k .atHL) s = aluAtHL k (slotByte 2 k.index 6) s := by cases k <;> rfl

theorem exec_aluImmForm (k : AluOp) (n8 : Byte) (s : State) :
    exec (aluImmForm k n8) s = aluImm k n8 (slotByte 3 k.index 6) s := by cases k <;> rfl

theorem encode_aluImmForm (k : AluOp) (n8 : Byte) : encode (aluImmForm k n8) = [slotByte 3 k.index 6, n8] := by
  cases k <;> rfl

section
variable {k : AluOp} {opcode : Byte} {s : State} (hm : s.cfg.models .primary opcode = true)
include hm

theorem aluReg_next (r : Reg8) : aluReg k r opcode s = .next (alu k (s.reg r) (s.past 1 .primary opcode false 4)) :=
  execSlot_ok hm (by rw [State.reg_advance, alu_cyc, State.cyc_advance])

theorem aluImm_next (n8 : Byte) : aluImm k n8 opcode s = .next (alu k n8 (s.past 2 .primary opcode false 8)) :=
  execSlot_ok hm (by rw [alu_cyc, State.cyc_advance])

theorem aluAtHL_next (hr : s.canRead s.hl = true) :
    aluAtHL k opcode s = .next (alu k (s.byteAt s.hl) (s.past 1 .primary opcode false 8)) := by
  refine execSlot_ok hm ?_
  rw [State.memRead_ok (by exact hr), ← State.cyc_advance, ← alu_cyc]
  rfl

theorem aluAtHL_stops (hr : s.canRead s.hl = false) :
    Stops (aluAtHL k opcode s) (.unimplementedMemoryAccess .read s.hl s.pc) := by
  refine execSlot_stops (x := ⟨.read, s.hl, s.advance 1⟩) hm ?_
  rw [State.memRead_bad (by exact hr)]
  rfl

end

/-- Settles O43: each form runs the operation of its kind of operand. -/
theorem aluResult : Obligations.AluResult := by
  intro k s
  refine ⟨fun r => ⟨encode_aluForm k _, fun hm => ?_⟩, fun n8 => ⟨encode_aluImmForm k n8, fun hm => ?_⟩,
    encode_aluForm k .atHL, fun hm => ?_⟩
  · rw [exec_aluForm_reg, aluReg_next hm]
  · rw [exec_aluImmForm, aluImm_next hm]
  · rw [exec_aluForm_atHL]
    exact ⟨aluAtHL_next hm, aluAtHL_stops hm⟩

/-! ### INC and DEC -/

theorem incOperand_eq (o : Operand8) (opcode : Byte) : incOperand o opcode =
    execSlot .primary opcode 1 (modifyOperand .primary opcode (o.cycles 4 12) o (fun _ v => v + 1#8)
      fun _ v => inc8Flags v) := rfl

theorem decOperand_eq (o : Operand8) (opcode : Byte) : decOperand o opcode =
    execSlot .primary opcode 1 (modifyOperand .primary opcode (o.cycles 4 12) o (fun _ v => v - 1#8)
      fun _ v => dec8Flags v) := rfl

theorem exec_incForm_reg (r : Reg8) (s : State) :
    exec (incForm (.reg r)) s = incOperand (.reg r) (slotByte 0 (Operand8.reg r).index 4) s := by cases r <;> rfl

theorem exec_decForm_reg (r : Reg8) (s : State) :
    exec (decForm (.reg r)) s = decOperand (.reg r) (slotByte 0 (Operand8.reg r).index 5) s := by cases r <;> rfl

theorem encode_incForm_decForm (r : Reg8) :
    encode (incForm (.reg r)) = [slotByte 0 (Operand8.reg r).index 4] ∧
      encode (decForm (.reg r)) = [slotByte 0 (Operand8.reg r).index 5] := by cases r <;> exact ⟨rfl, rfl⟩

theorem ofNat_toNat_add_one (v : Byte) : BitVec.ofNat 8 (v.toNat + 1) = v + 1#8 := by
  apply BitVec.eq_of_toNat_eq
  simp

theorem ofNat_toNat_add_255 (v : Byte) : BitVec.ofNat 8 (v.toNat + 255) = v - 1#8 := by
  apply BitVec.eq_of_toNat_eq
  simp [BitVec.toNat_sub, Nat.add_comm]

/-- Settles O44: both are an operand read, changed by one and written back; on (HL) each access may be turned down. -/
theorem incDecResult : Obligations.IncDecResult := by
  constructor
  · intro r s
    obtain ⟨hinc, hdec⟩ := encode_incForm_decForm r
    refine ⟨⟨hinc, fun hm => ?_⟩, ⟨hdec, fun hm => ?_⟩⟩
    · rw [exec_incForm_reg, incOperand_eq, ofNat_toNat_add_one]
      exact modifyOperand_reg_result hm r fun _ _ _ => rfl
    · rw [exec_decForm_reg, decOperand_eq, ofNat_toNat_add_255]
      exact modifyOperand_reg_result hm r fun _ _ _ => rfl
  · intro s p hp
    obtain rfl | rfl : _ ∨ _ := by simpa only [List.mem_cons, List.not_mem_nil, or_false] using hp
    · exact ⟨rfl, fun hm => modifyOperand_atHL_result (length := 1) (cycles := 12) (new := fun _ v => v + 1#8)
        (flagsOf := fun _ v => inc8Flags v) hm (fun _ _ _ => rfl) fun _ _ _ => rfl⟩
    · exact ⟨rfl, fun hm => modifyOperand_atHL_result (length := 1) (cycles := 12) (new := fun _ v => v - 1#8)
        (flagsOf := fun _ v => dec8Flags v) hm (fun _ _ _ => rfl) fun _ _ _ => rfl⟩

/-! ### DAA, CPL, SCF and CCF -/

theorem adjust_next {op : State → State} {opcode : Byte} {s : State} (hm : s.cfg.models .primary opcode = true) :
    adjust op opcode s = .next ((op (s.advance 1)).cyc .primary opcode false 4) := execSlot_ok hm rfl

theorem daaLow_iff (s : State) :
    s.daaLow = true ↔ if s.nf = true then s.hf = true else s.hf = true ∨ 9 < s.a.toNat % 16 := by
  unfold State.daaLow
  cases s.nf <;> simp

theorem daaHigh_iff (s : State) :
    s.daaHigh = true ↔ if s.nf = true then s.cf = true else s.cf = true ∨ 0x99 < s.a.toNat := by
  unfold State.daaHigh
  cases s.nf <;> simp

/-- The correction by its four cases. -/
theorem daaCorrection_cases (s : State) :
    (s.daaLow = true → s.daaHigh = true → s.daaCorrection = 0x66#8) ∧
    (s.daaLow = true → ¬s.daaHigh = true → s.daaCorrection = 0x06#8) ∧
    (¬s.daaLow = true → s.daaHigh = true → s.daaCorrection = 0x60#8) ∧
    (¬s.daaLow = true → ¬s.daaHigh = true → s.daaCorrection = 0x00#8) := by
  unfold State.daaCorrection
  cases s.daaLow <;> cases s.daaHigh <;> decide

/-- Writing the opposite of a bit through its own mask complements it. -/
theorem putMask_not {v mask : Byte} {i : Nat} (hmask : ∀ j < 8, mask.getLsbD j = decide (j = i)) :
    putMask v mask (!v.getLsbD i) = v ^^^ mask := by
  apply BitVec.eq_of_getLsbD_eq
  intro j hj
  rw [putMask_getLsbD _ _ _ hj, BitVec.getLsbD_xor, hmask j hj]
  by_cases h : j = i <;> simp [h]

theorem cplA_eq (s : State) : cplA s = { s with a := ~~~s.a, f := s.f ||| 0x60#8 } := by
  have hf : s.f ||| 0x40#8 ||| 0x20#8 = s.f ||| 0x60#8 := BitVec.or_assoc _ _ _
  have ha : s.a ^^^ 0xFF#8 = ~~~s.a := BitVec.xor_allOnes
  rw [← hf, ← ha]
  rfl

/-- N and H cleared. -/
theorem setN_setH_false (s : State) : (s.setN false).setH false = { s with f := s.f &&& 0x9F#8 } := by
  have hf : s.f &&& ~~~0x40#8 &&& ~~~0x20#8 = s.f &&& 0x9F#8 := BitVec.and_assoc _ _ _
  rw [← hf]
  rfl

theorem scfF_eq (s : State) : scfF s = { s with f := s.f &&& 0x9F#8 ||| 0x10#8 } := by
  rw [scfF, setN_setH_false]
  rfl

theorem ccfF_eq (s : State) : ccfF s = { s with f := (s.f &&& 0x9F#8) ^^^ 0x10#8 } := by
  have hc : s.cf = (s.f &&& 0x9F#8).getLsbD 4 := by simp [State.cf]
  rw [ccfF, setN_setH_false, hc, State.setC, putMask_not (by decide)]

/-- What DAA answers: a state that differs from the one before it in A and F, A corrected by its four cases. -/
theorem daaA_result (s : State) :
    let t := daaA s
    (s.daaLow = true → s.daaHigh = true → t.a = if s.nf = true then s.a - 0x66#8 else s.a + 0x66#8) ∧
    (s.daaLow = true → ¬s.daaHigh = true → t.a = if s.nf = true then s.a - 0x06#8 else s.a + 0x06#8) ∧
    (¬s.daaLow = true → s.daaHigh = true → t.a = if s.nf = true then s.a - 0x60#8 else s.a + 0x60#8) ∧
    (¬s.daaLow = true → ¬s.daaHigh = true → t.a = s.a) := by
  obtain ⟨hboth, hlow, hhigh, hnone⟩ := daaCorrection_cases s
  dsimp only
  rw [daaA_a]
  refine ⟨fun h k => by rw [hboth h k], fun h k => by rw [hlow h k], fun h k => by rw [hhigh h k], fun h k => ?_⟩
  rw [hnone h k, BitVec.sub_zero, BitVec.add_zero, ite_self]

/-- Settles O45: DAA by its corrections and flags, the others by their closed forms. -/
theorem adjustmentResult : Obligations.AdjustmentResult := by
  intro s
  refine ⟨⟨rfl, fun hm => ?_⟩, ⟨rfl, fun hm => ?_⟩, ⟨rfl, fun hm => ?_⟩, ⟨rfl, fun hm => ?_⟩⟩
  · let u := s.past 1 .primary 0x27#8 false 4
    obtain ⟨hz, hn, hh, hc⟩ := daaA_flagsAre u
    obtain ⟨hboth, hlow, hhigh, hnone⟩ := daaA_result u
    simp only [daaLow_iff, daaHigh_iff] at hboth hlow hhigh hnone
    exact ⟨daaA u, adjust_next hm, daaA_frame u, hboth, hlow, hhigh, hnone, hz, hn, hh,
      by rw [hc]; exact daaHigh_iff u, daaA_lowNibble u⟩
  · exact (adjust_next hm).trans (by rw [cplA_eq]; rfl)
  · exact (adjust_next hm).trans (by rw [scfF_eq]; rfl)
  · exact (adjust_next hm).trans (by rw [ccfF_eq]; rfl)

end Sys2Proof.Machine
end

section
/-! The dispatch (41_dispatch R200 to R211): slots no parameters model, the slot 0xCB, the bytes a step fetches, and the
instructions without an effect (O9, O19, O22, O58, O59). -/

namespace Sys2Proof.Machine

/-! ### The boot latch -/

/-- Settles O9, from the latch after a step. -/
theorem bootLatchClearsExactlyAtPc0100 : Obligations.BootLatchClearsExactlyAtPc0100 := by
  intro s t hs h
  rw [step_bootEnabled hs h]
  split
  case isTrue hpc => simp [hpc]
  case isFalse hpc => simp [hpc]

/-! ### Unmodeled slots -/

/-- An instruction whose slot the parameters leave out takes the handler of an unimplemented slot (41_dispatch R204). -/
theorem exec_unmodeled {i : Instr} {s : State} (hw : i.wellFormed = true)
    (hm : s.cfg.models (slotOf i).1 (slotOf i).2 = false) :
    exec i s = unimplementedSlot (slotOf i).1 (slotOf i).2 s := by
  obtain ⟨n, op, -, hexec⟩ | ⟨-, hexec⟩ := exec_slotFacts i hw
  · rw [hexec, execSlot_unmodeled hm]
  · exact hexec s

theorem unimplementedSlot_stops (table : Table) (opcode : Byte) (s : State) :
    Stops (unimplementedSlot table opcode s) (.unimplementedOpcode table opcode s.pc) := stops_raise _ _

theorem exec_unmodeled_stops {i : Instr} {s : State} (hw : i.wellFormed = true)
    (hm : s.cfg.models (slotOf i).1 (slotOf i).2 = false) :
    Stops (exec i s) (.unimplementedOpcode (slotOf i).1 (slotOf i).2 s.pc) := by
  rw [exec_unmodeled hw hm]
  exact unimplementedSlot_stops _ _ s

/-- MODELED_PRIMARY (30_encoding R131). -/
theorem models_primary_iff (c : Config) (op : Byte) :
    c.models .primary op = true ↔ op = 0xCB#8 ∨ op ∉ neverModeled ++ c.removedPrimary := by
  simp [Config.models]

theorem models_primary_neverModeled (c : Config) {op : Byte} (h : op ∈ neverModeled) : c.models .primary op = false := by
  have hne : op ≠ 0xCB#8 := fun e => absurd (e ▸ h) (by decide)
  exact models_never (List.contains_iff_mem.mpr h) (beq_false_of_ne hne) c

/-- Settles O22: the frame's slot check, and what each table of the parameters models. -/
theorem unmodeledSlotsAreFatal : Obligations.UnmodeledSlotsAreFatal := by
  refine ⟨fun i s => exec_unmodeled_stops, fun s p hp => ?_, fun c => ⟨rfl, fun op => models_primary_neverModeled c⟩,
    fun op => ⟨rfl, ?_⟩⟩
  · obtain ⟨hw, hslot, hnever⟩ :
        p.1.wellFormed = true ∧ slotOf p.1 = (.primary, p.2) ∧ p.2 ∈ neverModeled := by
      revert p
      decide
    have hstops := exec_unmodeled_stops (s := s) hw (by rw [hslot]; exact models_primary_neverModeled s.cfg hnever)
    rwa [hslot] at hstops
  · have hperm : List.Perm (neverModeled ++ Config.default.removedPrimary)
        [0xD3#8, 0xDB#8, 0xDD#8, 0xE3#8, 0xE4#8, 0xEB#8, 0xEC#8, 0xED#8, 0xF4#8, 0xFC#8, 0xFD#8,
          0x10#8, 0x76#8, 0xF3#8, 0xFB#8, 0xD9#8] := by decide
    rw [models_primary_iff, hperm.mem_iff]
    refine or_iff_right_of_imp ?_
    rintro rfl
    decide

/-! ### The slot 0xCB -/

theorem exec_rotForm (k : RotOp) (o : Operand8) (s : State) :
    exec (rotForm k o) s = rotateOperand k o (slotByte 0 k.index o.index) s := by
  cases o with
  | atHL => cases k <;> rfl
  | reg r => cases k <;> cases r <;> rfl

theorem exec_bitForm {b : Nat} (hb : b < 8) (o : Operand8) (s : State) :
    exec (bitForm b o) s = bitOperand b o (slotByte 1 b o.index) s := by
  cases o with
  | atHL => interval_cases b <;> rfl
  | reg r => cases r <;> interval_cases b <;> rfl

theorem exec_resForm {b : Nat} (hb : b < 8) (o : Operand8) (s : State) :
    exec (resForm b o) s = resOperand b o (slotByte 2 b o.index) s := by
  cases o with
  | atHL => interval_cases b <;> rfl
  | reg r => cases r <;> interval_cases b <;> rfl

theorem exec_setForm {b : Nat} (hb : b < 8) (o : Operand8) (s : State) :
    exec (setForm b o) s = setOperand b o (slotByte 3 b o.index) s := by
  cases o with
  | atHL => interval_cases b <;> rfl
  | reg r => cases r <;> interval_cases b <;> rfl

/-- The extended-table rule of a byte is the instruction that the byte decodes to (30_encoding R129). -/
theorem exec_decodeExtended (ext : Byte) (s : State) : exec (decodeExtended ext) s = execExtended ext s := by
  have hx : ext.toNat / 64 < 4 := Nat.div_lt_of_lt_mul ext.isLt
  have hy : ext.toNat / 8 % 8 < 8 := Nat.mod_lt _ (by decide)
  have hz : ext.toNat % 8 < 8 := Nat.mod_lt _ (by decide)
  interval_cases hblock : ext.toNat / 64 <;> simp only [decodeExtended, execExtended, hblock]
  · rw [exec_rotForm, index_rotOf hy, index_r8 hz, slotByte_fields hblock]
  · rw [exec_bitForm hy, index_r8 hz, slotByte_fields hblock]
  · rw [exec_resForm hy, index_r8 hz, slotByte_fields hblock]
  · rw [exec_setForm hy, index_r8 hz, slotByte_fields hblock]

theorem r8_reg {i : Nat} (h : i ≠ 6) : ∃ r, r8 i = .reg r := by
  unfold r8
  split
  case h_7 => exact absurd rfl h
  all_goals exact ⟨_, rfl⟩

/-- An extended slot on a register makes no memory access. -/
theorem execExtended_reg_next {ext : Byte} {s : State} (hm : s.cfg.models .extended ext = true)
    (hreg : ext.toNat % 8 ≠ 6) : ∃ t, execExtended ext s = .next t ∧ t.pc = s.pc + 2#16 ∧ t.mem = s.mem := by
  obtain ⟨r, hr⟩ := r8_reg hreg
  have hx : ext.toNat / 64 < 4 := Nat.div_lt_of_lt_mul ext.isLt
  interval_cases hblock : ext.toNat / 64 <;> simp only [execExtended, hr, hblock]
  all_goals exact ⟨_, execSlot_ok hm rfl, by simp, by simp⟩

/-- Settles O59: the byte after 0xCB selects an extended rule, which on a register completes. -/
theorem extendedDispatchResult : Obligations.ExtendedDispatchResult := by
  intro s
  simp only [exec_cbPrefix, exec_decodeExtended]
  refine ⟨fun hr => ?_, fun hr => ?_⟩
  · rw [if_pos hr]
    exact ⟨rfl, execExtended_reg_next⟩
  · rw [if_neg (by simp [hr])]
    exact stops_raise _ _

/-! ### The bytes a step fetches -/

/-- These bytes stand at PC and can be read there. -/
def BytesAt (s : State) (bytes : List Byte) : Prop :=
  ∀ (k : Nat) (v : Byte), bytes[k]? = some v →
    s.canRead (s.pc + BitVec.ofNat 16 k) = true ∧ s.byteAt (s.pc + BitVec.ofNat 16 k) = v

theorem BytesAt.fetchByte {s : State} {v : Byte} {rest : List Byte} (h : BytesAt s (v :: rest)) (pc0 : Addr) :
    fetchByte pc0 s = .ok (v, s.advance 1) := by
  obtain ⟨hread, hv⟩ := h 0 v rfl
  rw [BitVec.add_zero] at hread hv
  simp [Machine.fetchByte, State.fetch8, State.memRead_ok hread, hv, bind, Except.bind]

theorem BytesAt.tail {s : State} {v : Byte} {rest : List Byte} (h : BytesAt s (v :: rest)) :
    BytesAt (s.advance 1) rest := by
  intro k w hk
  have hpc : (s.advance 1).pc + BitVec.ofNat 16 k = s.pc + BitVec.ofNat 16 (k + 1) := by
    rw [State.advance_pc, BitVec.add_assoc, ← BitVec.ofNat_add, Nat.add_comm 1 k]
  rw [hpc]
  exact h (k + 1) w hk

/-- Where the operand bytes stand at PC, fetching them gives the instruction that they decode to. -/
theorem fetchOperands_of_decode {s : State} {i : Instr} {op : Byte} {operands : List Byte} (hop : op ≠ 0xCB#8)
    (hb : BytesAt s operands) (hd : decode (op :: operands) = .ok (i, [])) (pc0 : Addr) :
    fetchOperands pc0 op s = .ok i := by
  simp only [decode, if_neg hop] at hd
  split at hd <;> cases hd
  case h_1 hcount => simp [fetchOperands, hcount]
  case h_2 hcount => simp [fetchOperands, hcount, hb.fetchByte, bind, Except.bind]
  case h_3 hcount => simp [fetchOperands, hcount, hb.fetchByte, hb.tail.fetchByte, bind, Except.bind]

theorem checkSlot_modeled {table : Table} {opcode : Byte} {s : State} (hm : s.cfg.models table opcode = true)
    (pc0 : Addr) : checkSlot pc0 table opcode s = .ok () := if_pos hm

theorem checkSlot_unmodeled {table : Table} {opcode : Byte} {s : State} (hm : s.cfg.models table opcode = false)
    (pc0 : Addr) : checkSlot pc0 table opcode s = .error ⟨.unimplementedOpcode table opcode pc0, s⟩ :=
  if_neg (by simp [hm])

theorem slotOf_extended {i : Instr} {ext : Byte} {rest : List Byte} (h : encode i = 0xCB#8 :: ext :: rest) :
    slotOf i = (.extended, ext) := by
  rw [slotOf, h]
  exact if_pos rfl

theorem slotOf_primary {i : Instr} {op : Byte} {rest : List Byte} (h : encode i = op :: rest) (hop : op ≠ 0xCB#8) :
    slotOf i = (.primary, op) := by
  rw [slotOf, h]
  cases rest with
  | nil => rfl
  | cons b rest => exact if_neg hop

/-- Where a whole instruction stands at PC, the fetch is the check of its slot and then that instruction: the slot is an
extended one, or a primary one whose operand bytes are read after the check (41_dispatch R200, 60_exceptions R334). -/
theorem fetchInstr_of_bytesAt {s : State} {i : Instr} (hw : i.wellFormed = true) (hb : BytesAt s (encode i)) :
    fetchInstr s = (do
      checkSlot s.pc (slotOf i).1 (slotOf i).2 (s.advance (opcodeBytes (slotOf i).1))
      .ok i) := by
  have hd := decode_encode_append i hw []
  rw [List.append_nil] at hd
  cases henc : encode i with
  | nil =>
    rw [henc] at hd
    cases hd
  | cons op rest =>
    rw [henc] at hb hd
    by_cases hop : op = 0xCB#8
    · subst hop
      cases rest with
      | nil =>
        cases hd
        cases hw
      | cons ext after =>
        cases hd
        have htwo : (s.advance 1).advance 1 = s.advance 2 := by simp [State.advance, BitVec.add_assoc]
        simp [fetchInstr, hb.fetchByte, hb.tail.fetchByte, slotOf_extended henc, htwo, opcodeBytes, bind, Except.bind]
    · simp [fetchInstr, hb.fetchByte, hop, fetchOperands_of_decode hop hb.tail hd, slotOf_primary henc hop, opcodeBytes,
        bind, Except.bind]

theorem step_of_fetched {s : State} {i : Instr} (hs : s.running) (h : fetchInstr s.beginStep = .ok i) :
    step s = finish (exec i s.beginStep) := by
  simp [step, gate, hs.1, hs.2, h]

theorem step_of_fetchError {s : State} {x : FetchError} (hs : s.running) (h : fetchInstr s.beginStep = .error x) :
    step s = raise x.record x.stopped := by
  simp [step, gate, hs.1, hs.2, h]

theorem finish_raise (e : FatalError) (s : State) : finish (raise e s) = raise e s := by cases e <;> rfl

/-- A step at the bytes of a whole instruction, whether or not its slot is modeled (41_dispatch R200). -/
theorem step_of_bytesAt {s : State} {i : Instr} (hs : s.running) (hw : i.wellFormed = true) (hb : BytesAt s (encode i)) :
    step s = finish (exec i s.beginStep) := by
  have hfetch := fetchInstr_of_bytesAt (s := s.beginStep) hw hb
  cases hm : s.beginStep.cfg.models (slotOf i).1 (slotOf i).2 with
  | true =>
    rw [checkSlot_modeled (by exact hm)] at hfetch
    exact step_of_fetched hs hfetch
  | false =>
    rw [checkSlot_unmodeled (by exact hm)] at hfetch
    rw [step_of_fetchError hs hfetch, exec_unmodeled hw hm, unimplementedSlot, finish_raise]

/-- Settles O19: the step is `finish` of the instruction, whatever it answers. -/
theorem stepRunsTheDecodedInstruction : Obligations.StepRunsTheDecodedInstruction := by
  intro s i hs hw hb
  have hstep : step s = finish (exec i { s with instrCycles := 0 }) := step_of_bytesAt hs hw hb
  exact ⟨fun t ht => by rw [hstep, ht]; rfl, fun f hf => by rw [hstep, hf]; rfl⟩

/-! ### Instructions without an effect -/

theorem noEffect_next {opcode : Byte} {s : State} (hm : s.cfg.models .primary opcode = true) :
    noEffect opcode s = .next (s.past 1 .primary opcode false 4) := execSlot_ok hm rfl

/-- Settles O58: NOP, DI and EI are one meaning in three slots. -/
theorem nopDiEiChangeOnlyPcAndCost : Obligations.NopDiEiChangeOnlyPcAndCost := by
  intro s p hp
  simp only [List.mem_cons, List.not_mem_nil, or_false] at hp
  obtain rfl | rfl | rfl := hp
  · exact ⟨rfl, noEffect_next⟩
  · exact ⟨rfl, noEffect_next⟩
  · exact ⟨rfl, noEffect_next⟩

end Sys2Proof.Machine
end

section
/-! Conditions and jumps (42_control_stack R230 to R234, R241; O53, O54, O55). -/

namespace Sys2Proof.Machine

/-! ### Conditions -/

/-- A bit of a byte read through its own mask. -/
theorem getLsbD_iff_and_twoPow (v : Byte) {i : Nat} (hmask : BitVec.twoPow 8 i ≠ 0#8) :
    ((!v.getLsbD i) = true ↔ v &&& BitVec.twoPow 8 i = 0#8) ∧
      (v.getLsbD i = true ↔ v &&& BitVec.twoPow 8 i = BitVec.twoPow 8 i) := by
  rw [BitVec.and_twoPow]
  cases v.getLsbD i with
  | false => simp [hmask.symm]
  | true => simp [hmask]

/-- Settles O55: each condition is one bit of F, read through the mask of that bit. -/
theorem conditionsReadZAndC : Obligations.ConditionsReadZAndC := fun s =>
  have ⟨hnz, hz⟩ := getLsbD_iff_and_twoPow s.f (i := 7) (by decide)
  have ⟨hnc, hc⟩ := getLsbD_iff_and_twoPow s.f (i := 4) (by decide)
  ⟨hnz, hz, hnc, hc⟩

@[simp] theorem Cond.holds_advance (k : Cond) (s : State) (n : Nat) : k.holds (s.advance n) = k.holds s := by
  cases k <;> rfl

/-- An instruction that does one thing where a condition holds and another where it does not, without memory. -/
theorem execSlot_cond_next {table : Table} {opcode : Byte} {length : Nat} {s : State}
    (hm : s.cfg.models table opcode = true) (k : Cond) (onTrue onFalse : State → State) :
    execSlot table opcode length (fun t => if k.holds t then .ok (onTrue t) else .ok (onFalse t)) s =
      .next (if k.holds s = true then onTrue (s.advance length) else onFalse (s.advance length)) := by
  refine execSlot_ok hm ?_
  rw [Cond.holds_advance]
  split <;> rfl

/-! ### Jumps -/

/-- The displacement counts from the instruction after the JR, which is two bytes long (42_control_stack R230). -/
theorem relativeTarget_eq (pc : Addr) (e8 : Byte) :
    BitVec.ofInt 16 ((pc.toNat : Int) + 2 + e8.toInt) = pc + 2#16 + sext16 e8 := by
  rw [BitVec.ofInt_add, BitVec.ofInt_add, BitVec.ofInt_natCast, BitVec.ofNat_toNat, BitVec.setWidth_eq]
  rfl

theorem exec_jrForm (k : Cond) (e8 : Byte) (s : State) :
    exec (jrForm k e8) s = jrCond k e8 (slotByte 0 (4 + k.index) 0) s := by cases k <;> rfl

theorem encode_jrForm (k : Cond) (e8 : Byte) : encode (jrForm k e8) = [slotByte 0 (4 + k.index) 0, e8] := by
  cases k <;> rfl

theorem exec_jpForm (k : Cond) (n16 : Addr) (s : State) :
    exec (jpForm k n16) s = jpCond k n16 (slotByte 3 k.index 2) s := by cases k <;> rfl

theorem encode_jpForm (k : Cond) (n16 : Addr) :
    encode (jpForm k n16) = [slotByte 3 k.index 2, loByte n16, hiByte n16] := by cases k <;> rfl

section
variable {opcode : Byte} {s : State} (hm : s.cfg.models .primary opcode = true)
include hm

theorem jrAlways_next (e8 : Byte) : jrAlways e8 opcode s =
    .next { s.past 2 .primary opcode false 12 with pc := s.pc + 2#16 + sext16 e8 } := execSlot_ok hm rfl

theorem jrCond_next (k : Cond) (e8 : Byte) : jrCond k e8 opcode s =
    .next (if k.holds s = true then { s.past 2 .primary opcode true 12 with pc := s.pc + 2#16 + sext16 e8 }
      else s.past 2 .primary opcode false 8) := execSlot_cond_next hm k _ _

theorem jpAlways_next (n16 : Addr) :
    jpAlways n16 opcode s = .next { s.past 3 .primary opcode false 16 with pc := n16 } := execSlot_ok hm rfl

theorem jpCond_next (k : Cond) (n16 : Addr) : jpCond k n16 opcode s =
    .next (if k.holds s = true then { s.past 3 .primary opcode true 16 with pc := n16 }
      else s.past 3 .primary opcode false 12) := execSlot_cond_next hm k _ _

theorem jpHL_next : jpHL opcode s = .next { s.past 1 .primary opcode false 4 with pc := s.hl } := execSlot_ok hm rfl

end

/-- Settles O53: the target past the displacement, and JR cond by its two cases. -/
theorem relativeJumpResult : Obligations.RelativeJumpResult := by
  intro e8 s
  rw [relativeTarget_eq]
  refine ⟨⟨rfl, fun hm => jrAlways_next hm e8⟩, fun k => ⟨encode_jrForm k e8, fun hm => ?_⟩⟩
  rw [exec_jrForm, jrCond_next hm]

/-- Settles O54, with JP cond by its two cases. -/
theorem absoluteJumpResult : Obligations.AbsoluteJumpResult := by
  intro n16 s
  refine ⟨⟨rfl, fun hm => jpAlways_next hm n16⟩, ⟨rfl, jpHL_next⟩, fun k => ⟨encode_jpForm k n16, fun hm => ?_⟩⟩
  rw [exec_jpForm, jpCond_next hm]

end Sys2Proof.Machine
end

section
/-! The stack: what `push16` and `pop16` can do, the instructions built on them, and that a pop undoes a push
(42_control_stack R220 to R229, R235 to R240; O50, O51, O52, O56, O57). -/

namespace Sys2Proof.Machine

/-! ### A push and a pop -/

/-- The state after a permitted push (42_control_stack R220). -/
def State.pushed (s : State) (v : Addr) : State := { s.storeWord s.sp v with sp := s.sp - 2#16 }

/-- `push16`: the low byte's access decides first (42_control_stack R220). -/
theorem State.push16_eq (s : State) (v : Addr) :
    s.push16 v =
      if s.canWrite s.sp then
        if s.canWrite (s.sp + 1#16) then .ok (s.pushed v)
        else .error ⟨.write (hiByte v), s.sp + 1#16, s.store s.sp (loByte v)⟩
      else .error ⟨.write (loByte v), s.sp, s⟩ := by
  cases hlo : s.canWrite s.sp with
  | false => simp [State.push16, State.memWrite2_eq, hlo, bind, Except.bind]
  | true =>
    cases hhi : s.canWrite (s.sp + 1#16) with
    | false => simp [State.push16, State.memWrite2_eq, hlo, hhi, bind, Except.bind]
    | true => exact State.push16_ok v (by rw [State.canWriteWord, hlo, hhi]; rfl)

/-- `pop16`: SP moves first, then the low byte's access decides (42_control_stack R221). -/
theorem State.pop16_eq (s : State) :
    s.pop16 =
      let a := s.sp + 2#16
      let t := { s with sp := a }
      if s.canRead a then
        if s.canRead (a + 1#16) then .ok (s.wordAt a, t) else .error ⟨.read, a + 1#16, t⟩
      else .error ⟨.read, a, t⟩ := by
  have hread (a b : Addr) : State.canRead { s with sp := a } b = s.canRead b := rfl
  simp only [State.pop16, State.memRead2_eq, hread]
  cases s.canRead (s.sp + 2#16) <;> cases s.canRead (s.sp + 2#16 + 1#16) <;> rfl

/-- A push changes no field but SP, memory and the output history. -/
theorem State.pushed_frame (s : State) (v : Addr) :
    s.pushed v = { s with sp := s.sp - 2#16, mem := (s.pushed v).mem, output := (s.pushed v).output } := by
  rw [State.pushed, State.storeWord, State.store_frame, State.store_frame]

@[simp] theorem State.pushed_cfg (s : State) (v : Addr) : (s.pushed v).cfg = s.cfg := by rw [State.pushed_frame]
@[simp] theorem State.pushed_f (s : State) (v : Addr) : (s.pushed v).f = s.f := by rw [State.pushed_frame]
@[simp] theorem State.reg_pushed (s : State) (v : Addr) (r : Reg8) : (s.pushed v).reg r = s.reg r := by
  rw [State.pushed_frame]
  cases r <;> rfl

/-- Where a pop after a push reads (42_control_stack R222). -/
theorem State.pushed_sp_add_2 (s : State) (v : Addr) : (s.pushed v).sp + 2#16 = s.sp := BitVec.sub_add_cancel _ _

theorem State.canRead_pushed (s : State) (v a : Addr) : (s.pushed v).canRead a = s.canRead a :=
  s.canRead_storeWord s.sp v a

theorem State.wordAt_pushed {s : State} (v : Addr) (h : s.canWriteWord s.sp = true) : (s.pushed v).wordAt s.sp = v :=
  State.wordAt_storeWord v h

theorem State.cyc_pushed (s : State) (v : Addr) (table : Table) (opcode : Byte) (taken : Bool) (n : Nat) :
    (s.pushed v).cyc table opcode taken n = (s.cyc table opcode taken n).pushed v := by
  have hstores : (s.storeWord s.sp v).cyc table opcode taken n = (s.cyc table opcode taken n).storeWord s.sp v := by
    rw [State.storeWord, State.cyc_store, State.cyc_store, State.storeWord]
  exact congrArg (fun u : State => { u with sp := s.sp - 2#16 }) hstores

theorem State.cyc_setStk (s : State) (r : Stk16) (v : Addr) (table : Table) (opcode : Byte) (taken : Bool) (n : Nat) :
    (s.setStk r v).cyc table opcode taken n = (s.cyc table opcode taken n).setStk r v := by cases r <;> rfl

section
variable {table : Table} {opcode : Byte} {length cycles : Nat} {taken : Bool} {op : State → Micro State} {s : State}
  (hm : s.cfg.models table opcode = true)
include hm

/-- An instruction that pushes a word and then does `move`, which touches neither memory nor the cost: the next state,
or which byte stops it. -/
theorem execSlot_push16_result {v : Addr} {move : State → State}
    (hop : op (s.advance length) = (do
      let u ← (s.advance length).push16 v
      .ok ((move u).cyc table opcode taken cycles)))
    (hcyc : ∀ u, (move u).cyc table opcode taken cycles = move (u.cyc table opcode taken cycles))
    (hmem : ∀ u, (move u).mem = u.mem) :
    let r := execSlot table opcode length op s
    let t := move ((s.past length table opcode taken cycles).pushed v)
    (s.canWrite s.sp = true → s.canWrite (s.sp + 1#16) = true → r = .next t ∧
      ∀ b : Addr, t.cell b = if b = s.sp + 1#16 then hiByte v else if b = s.sp then loByte v else s.cell b) ∧
    (s.canWrite s.sp = false → Stops r (.unimplementedMemoryAccess (.write (loByte v)) s.sp s.pc)) ∧
    (s.canWrite s.sp = true → s.canWrite (s.sp + 1#16) = false →
      Stops r (.unimplementedMemoryAccess (.write (hiByte v)) (s.sp + 1#16) s.pc)) := by
  have hsp : (s.advance length).sp = s.sp := rfl
  rw [State.push16_eq, hsp, State.canWrite_advance, State.canWrite_advance] at hop
  refine ⟨fun hlo hhi => ⟨?_, fun b => ?_⟩, fun hlo => ?_, fun hlo hhi => ?_⟩
  · rw [if_pos hlo, if_pos hhi] at hop
    have hcost := (hcyc _).trans (congrArg move ((s.advance length).cyc_pushed v table opcode taken cycles))
    exact execSlot_ok hm (hop.trans (congrArg Except.ok hcost))
  · rw [State.cell, hmem]
    exact State.cell_storeWord _ _ _ _
  · rw [hlo] at hop
    exact execSlot_stops hm hop
  · rw [hlo, hhi] at hop
    exact execSlot_stops hm hop

/-- An instruction that pops a word and then does `onWord` with it, which does not touch the cost: the next state, or
which byte stops it. -/
theorem execSlot_pop16_result {onWord : Addr → State → State}
    (hop : op (s.advance length) = (do
      let p ← (s.advance length).pop16
      .ok ((onWord p.1 p.2).cyc table opcode taken cycles)))
    (hcyc : ∀ v u, (onWord v u).cyc table opcode taken cycles = onWord v (u.cyc table opcode taken cycles)) :
    let r := execSlot table opcode length op s
    let a := s.sp + 2#16
    (s.canRead a = true → s.canRead (a + 1#16) = true →
      r = .next (onWord (s.wordAt a) { s.past length table opcode taken cycles with sp := a })) ∧
    (s.canRead a = false → Stops r (.unimplementedMemoryAccess .read a s.pc)) ∧
    (s.canRead a = true → s.canRead (a + 1#16) = false →
      Stops r (.unimplementedMemoryAccess .read (a + 1#16) s.pc)) := by
  have hsp : (s.advance length).sp = s.sp := rfl
  simp only [State.pop16_eq, hsp, State.canRead_advance] at hop
  refine ⟨fun hlo hhi => ?_, fun hlo => ?_, fun hlo hhi => ?_⟩
  · rw [if_pos hlo, if_pos hhi] at hop
    exact execSlot_ok hm (hop.trans (congrArg Except.ok (hcyc _ _)))
  · rw [hlo] at hop
    exact execSlot_stops hm hop
  · rw [hlo, hhi] at hop
    exact execSlot_stops hm hop

end

/-! ### PUSH and POP -/

theorem exec_pushForm (r : Stk16) (s : State) :
    exec (pushForm r) s = pushStk r (slotByte 3 (2 * r.index) 5) s := by cases r <;> rfl

theorem exec_popForm (r : Stk16) (s : State) :
    exec (popForm r) s = popStk r (slotByte 3 (2 * r.index) 1) s := by cases r <;> rfl

theorem encode_pushForm_popForm (r : Stk16) :
    encode (pushForm r) = [slotByte 3 (2 * r.index) 5] ∧ encode (popForm r) = [slotByte 3 (2 * r.index) 1] := by
  cases r <;> exact ⟨rfl, rfl⟩

@[simp] theorem State.stk_advance (s : State) (n : Nat) (r : Stk16) : (s.advance n).stk r = s.stk r := by
  cases r <;> rfl

/-- Settles O50: PUSH is the push of its pair and nothing else. -/
theorem pushResult : Obligations.PushResult := by
  intro r s
  refine ⟨(encode_pushForm_popForm r).1, fun hm => ?_⟩
  rw [exec_pushForm]
  exact execSlot_push16_result (move := id) hm (by rw [State.stk_advance]; rfl) (fun _ => rfl) fun _ => rfl

/-- Settles O51: POP is the pop of a word written to its pair. -/
theorem popResult : Obligations.PopResult := by
  intro r s
  refine ⟨(encode_pushForm_popForm r).2, fun hm => ?_⟩
  rw [exec_popForm]
  exact execSlot_pop16_result (onWord := fun v u => u.setStk r v) hm rfl fun v u => u.cyc_setStk r v _ _ _ _

/-! ### CALL and RST -/

theorem State.call_bind (s : State) (target : Addr) (g : State → Micro State) :
    (s.call target >>= g) = (s.push16 s.pc >>= fun u => g (u.jump target)) := by
  rw [State.call]
  cases s.push16 s.pc <;> rfl

theorem exec_call_n16 (n16 : Addr) (s : State) : exec (.call_n16 n16) s = callAlways n16 0xCD#8 s := rfl

theorem exec_callForm (k : Cond) (n16 : Addr) (s : State) :
    exec (callForm k n16) s = callCond k n16 (slotByte 3 k.index 4) s := by cases k <;> rfl

theorem encode_callForm (k : Cond) (n16 : Addr) :
    encode (callForm k n16) = [slotByte 3 k.index 4, loByte n16, hiByte n16] := by cases k <;> rfl

theorem exec_rstForm {y : Nat} (hy : y < 8) (s : State) :
    exec (rstForm y) s = restart (BitVec.ofNat 16 (8 * y)) (slotByte 3 y 7) s := by interval_cases y <;> rfl

theorem encode_rstForm {y : Nat} (hy : y < 8) : encode (rstForm y) = [slotByte 3 y 7] := by interval_cases y <;> rfl

/-- An instruction of these bytes that calls: the push of the address after them, then the jump. -/
theorem execSlot_call_result {bytes : List Byte} {cycles : Nat} {taken : Bool} {target : Addr} {op : State → Micro State}
    {s : State} (hm : s.cfg.models .primary (bytes.headD 0#8) = true)
    (hop : op (s.advance bytes.length) = (do
      let u ← (s.advance bytes.length).call target
      .ok (u.cyc .primary (bytes.headD 0#8) taken cycles))) :
    let r := execSlot .primary (bytes.headD 0#8) bytes.length op s
    let back := s.pc + BitVec.ofNat 16 bytes.length
    let t := { ((s.past bytes.length .primary (bytes.headD 0#8) taken cycles).store s.sp (loByte back)).store
      (s.sp + 1#16) (hiByte back) with sp := s.sp - 2#16, pc := target }
    (s.canWrite s.sp = true → s.canWrite (s.sp + 1#16) = true → r = .next t ∧
      ∀ b : Addr, t.cell b = if b = s.sp + 1#16 then hiByte back else if b = s.sp then loByte back else s.cell b) ∧
    (s.canWrite s.sp = false → Stops r (.unimplementedMemoryAccess (.write (loByte back)) s.sp s.pc)) ∧
    (s.canWrite s.sp = true → s.canWrite (s.sp + 1#16) = false →
      Stops r (.unimplementedMemoryAccess (.write (hiByte back)) (s.sp + 1#16) s.pc)) :=
  execSlot_push16_result (move := fun u => u.jump target) hm (hop.trans (State.call_bind _ _ _)) (fun _ => rfl)
    fun _ => rfl

theorem callCond_passes {k : Cond} {opcode : Byte} {s : State} (hm : s.cfg.models .primary opcode = true)
    (hk : k.holds s = false) (n16 : Addr) : callCond k n16 opcode s = .next (s.past 3 .primary opcode false 12) :=
  execSlot_ok hm (by simp [hk, State.cyc_advance])

/-- Settles O56: each form calls, CALL cond where its condition holds. -/
theorem callResult : Obligations.CallResult := by
  intro n16 s
  refine ⟨?_, fun k hk => ⟨encode_callForm k n16, fun hm => ?_⟩⟩
  · rintro p (rfl | ⟨k, hk, rfl⟩ | ⟨y, rfl⟩)
    · refine ⟨rfl, fun hm => ?_⟩
      rw [exec_call_n16]
      exact execSlot_call_result hm rfl
    · refine ⟨encode_callForm k n16, fun hm => ?_⟩
      rw [exec_callForm]
      exact execSlot_call_result hm (if_pos (by rw [Cond.holds_advance, hk]))
    · refine ⟨encode_rstForm y.isLt, fun hm => ?_⟩
      rw [exec_rstForm y.isLt]
      exact execSlot_call_result hm rfl
  · rw [exec_callForm]
    exact callCond_passes hm hk n16

/-! ### RET -/

theorem State.ret_bind (s : State) (g : State → Micro State) :
    (s.ret >>= g) = (s.pop16 >>= fun p => g (p.2.jump p.1)) := by
  rw [State.ret]
  cases s.pop16 <;> rfl

theorem exec_ret (s : State) : exec .ret s = retAlways 0xC9#8 s := rfl

theorem exec_reti (s : State) : exec .reti s = retAlways 0xD9#8 s := rfl

theorem exec_retForm (k : Cond) (s : State) :
    exec (retForm k) s = retCond k (slotByte 3 k.index 0) s := by cases k <;> rfl

theorem encode_retForm (k : Cond) : encode (retForm k) = [slotByte 3 k.index 0] := by cases k <;> rfl

section
variable {opcode : Byte} {s : State} (hm : s.cfg.models .primary opcode = true)
include hm

/-- An instruction that returns: the pop, then the jump to the word popped. -/
theorem execSlot_ret_result {cycles : Nat} {taken : Bool} {op : State → Micro State}
    (hop : op (s.advance 1) = (do
      let u ← (s.advance 1).ret
      .ok (u.cyc .primary opcode taken cycles))) :
    let r := execSlot .primary opcode 1 op s
    let a := s.sp + 2#16
    (s.canRead a = true → s.canRead (a + 1#16) = true →
      r = .next { s.past 1 .primary opcode taken cycles with sp := a, pc := s.wordAt a }) ∧
    (s.canRead a = false → Stops r (.unimplementedMemoryAccess .read a s.pc)) ∧
    (s.canRead a = true → s.canRead (a + 1#16) = false →
      Stops r (.unimplementedMemoryAccess .read (a + 1#16) s.pc)) :=
  execSlot_pop16_result (onWord := fun v u => u.jump v) hm (hop.trans (State.ret_bind _ _)) fun _ _ => rfl

theorem retCond_passes {k : Cond} (hk : k.holds s = false) :
    retCond k opcode s = .next (s.past 1 .primary opcode false 8) :=
  execSlot_ok hm (by simp [hk, State.cyc_advance])

end

/-- Settles O57: each form returns, RET cond where its condition holds. -/
theorem returnResult : Obligations.ReturnResult := by
  intro s
  refine ⟨?_, fun k hk => ⟨encode_retForm k, fun hm => ?_⟩⟩
  · rintro p (rfl | rfl | ⟨k, hk, rfl⟩)
    · refine ⟨rfl, fun hm => ?_⟩
      rw [exec_ret]
      exact execSlot_ret_result hm rfl
    · refine ⟨rfl, fun hm => ?_⟩
      rw [exec_reti]
      exact execSlot_ret_result hm rfl
    · refine ⟨encode_retForm k, fun hm => ?_⟩
      rw [exec_retForm]
      exact execSlot_ret_result hm (if_pos (by rw [Cond.holds_advance, hk]))
  · rw [exec_retForm]
    exact retCond_passes hm hk

/-! ### A pop after a push, a RET after a CALL -/

/-- A pop in a state with SP, memory and the decoder as a push has left them (42_control_stack R222). -/
theorem State.pop16_of_pushed {s t : State} {v : Addr} (hw : s.canWriteWord s.sp = true)
    (hr : s.canReadWord s.sp = true) (hsp : t.sp = (s.pushed v).sp) (hboot : t.bootEnabled = (s.pushed v).bootEnabled)
    (hcfg : t.cfg = (s.pushed v).cfg) (hmem : t.mem = (s.pushed v).mem) :
    t.pop16 = .ok (v, { t with sp := s.sp }) := by
  have hback : t.sp + 2#16 = s.sp := by rw [hsp, State.pushed_sp_add_2]
  have hread (a : Addr) : t.canRead a = s.canRead a := by rw [State.canRead_congr hboot hcfg, State.canRead_pushed]
  have hword : t.wordAt s.sp = v := by
    rw [State.wordAt, State.byteAt_congr hboot hcfg hmem, State.byteAt_congr hboot hcfg hmem]
    exact State.wordAt_pushed v hw
  have hpop := State.pop16_ok (s := t)
  rw [hback, State.canReadWord, hread, hread, hword] at hpop
  exact hpop hr

/-- RET takes the word popped to PC. -/
theorem exec_ret_of_pop16 {t : State} {a v : Addr} (hm : t.cfg.models .primary 0xC9#8 = true)
    (hpop : (t.advance 1).pop16 = .ok (v, { t.advance 1 with sp := a })) :
    exec .ret t = .next { t.past 1 .primary 0xC9#8 false 16 with sp := a, pc := v } := by
  rw [exec_ret]
  refine execSlot_ok hm ?_
  rw [State.ret_bind, hpop]
  rfl

theorem State.reg_afterRet (t : State) (a v : Addr) (r : Reg8) :
    State.reg { t.past 1 .primary 0xC9#8 false 16 with sp := a, pc := v } r = t.reg r := by cases r <;> rfl

/-- A permitted CALL (42_control_stack R235). -/
theorem exec_call_n16_pushed {s : State} (hm : s.cfg.models .primary 0xCD#8 = true)
    (hw : s.canWriteWord s.sp = true) (target : Addr) :
    exec (.call_n16 target) s =
      .next (((s.past 3 .primary 0xCD#8 false 24).pushed (s.pc + 3#16)).jump target) := by
  have hpush : (s.advance 3).push16 (s.pc + 3#16) = .ok ((s.advance 3).pushed (s.pc + 3#16)) := State.push16_ok _ hw
  rw [exec_call_n16]
  refine execSlot_ok hm ?_
  rw [State.call_bind, State.advance_pc, hpush]
  exact congrArg (fun u : State => Except.ok (u.jump target)) (State.cyc_pushed _ _ _ _ _ _)

@[simp] theorem State.reg_jump (s : State) (a : Addr) (r : Reg8) : (s.jump a).reg r = s.reg r := by cases r <;> rfl

/-- Settles O52: the pop of what was pushed, and a CALL then a RET through the same push. -/
theorem popAndReturnUndoPushAndCall : Obligations.PopAndReturnUndoPushAndCall := by
  intro s hw hr
  refine ⟨fun v => ⟨s.pushed v, _, State.push16_ok v hw, State.pop16_of_pushed hw hr rfl rfl rfl rfl, rfl⟩,
    fun hcall hret target => ?_⟩
  let u := s.past 3 .primary 0xCD#8 false 24
  let t := (u.pushed (s.pc + 3#16)).jump target
  have hm : t.cfg.models .primary 0xC9#8 = true := by rwa [show t.cfg = s.cfg from u.pushed_cfg _]
  have hpop : (t.advance 1).pop16 = .ok (s.pc + 3#16, { t.advance 1 with sp := s.sp }) :=
    State.pop16_of_pushed (s := u) hw hr rfl rfl rfl rfl
  have hf : t.f = s.f := u.pushed_f _
  have hreg (r : Reg8) : t.reg r = s.reg r := ((u.pushed _).reg_jump target r).trans (u.reg_pushed _ r)
  exact ⟨t, _, exec_call_n16_pushed hcall hw target, rfl, exec_ret_of_pop16 hm hpop, rfl, rfl, hf,
    fun r => (t.reg_afterRet _ _ r).trans (hreg r)⟩

end Sys2Proof.Machine
end

section
/-! The 8-bit loads and stores: what an instruction with one byte access answers, then each instruction as such a one
(43_load8 R250 to R269; O33 to O37). -/

namespace Sys2Proof.Machine

/-! ### An instruction with one byte access -/

section
variable {table : Table} {opcode : Byte} {length cycles : Nat} {taken : Bool} {op : State → Micro State} {s : State}
  {a : Addr} (hm : s.cfg.models table opcode = true)
include hm

/-- An instruction that reads one byte and then does `put` with it, which does not touch the cost. -/
theorem execSlot_memRead_result {put : Byte → State → State}
    (hop : op (s.advance length) = (do
      let v ← (s.advance length).memRead a
      .ok ((put v (s.advance length)).cyc table opcode taken cycles)))
    (hcyc : ∀ v u, (put v u).cyc table opcode taken cycles = put v (u.cyc table opcode taken cycles) := by
      intros; rfl) :
    let r := execSlot table opcode length op s
    (s.canRead a = true → r = .next (put (s.byteAt a) (s.past length table opcode taken cycles))) ∧
    (s.canRead a = false → Stops r (.unimplementedMemoryAccess .read a s.pc)) := by
  rw [State.memRead_eq, State.canRead_advance] at hop
  refine ⟨fun hr => ?_, fun hr => ?_⟩
  · rw [if_pos hr] at hop
    exact execSlot_ok hm (hop.trans (congrArg Except.ok (hcyc _ _)))
  · rw [hr] at hop
    exact execSlot_stops hm hop

/-- An instruction that writes one byte and then does `move`, which touches neither memory nor the cost. -/
theorem execSlot_memWrite_result {v : Byte} {move : State → State}
    (hop : op (s.advance length) = (do
      let u ← (s.advance length).memWrite a v
      .ok ((move u).cyc table opcode taken cycles)))
    (hcyc : ∀ u, (move u).cyc table opcode taken cycles = move (u.cyc table opcode taken cycles) := by intros; rfl)
    (hmem : ∀ u, (move u).mem = u.mem := by intros; rfl) :
    let r := execSlot table opcode length op s
    let t := move ((s.past length table opcode taken cycles).store a v)
    (s.canWrite a = true → r = .next t ∧ ∀ b : Addr, t.cell b = if b = a then v else s.cell b) ∧
    (s.canWrite a = false → Stops r (.unimplementedMemoryAccess (.write v) a s.pc)) := by
  rw [State.memWrite_eq, State.canWrite_advance] at hop
  refine ⟨fun hw => ⟨?_, fun b => ?_⟩, fun hw => ?_⟩
  · rw [if_pos hw] at hop
    have hcost := (hcyc _).trans (congrArg move ((s.advance length).cyc_store a v table opcode taken cycles))
    exact execSlot_ok hm (hop.trans (congrArg Except.ok hcost))
  · rw [State.cell, hmem]
    exact State.cell_store _ _ _ _
  · rw [hw] at hop
    exact execSlot_stops hm hop

end

/-! ### Registers and immediate bytes -/

theorem exec_ldForm_reg (x y : Reg8) (s : State) : exec (ldForm (.reg x) (.reg y)) s =
    ldReg x y (slotByte 1 (Operand8.reg x).index (Operand8.reg y).index) s := by cases x <;> cases y <;> rfl

theorem exec_ldImmForm_reg (x : Reg8) (n8 : Byte) (s : State) :
    exec (ldImmForm (.reg x) n8) s = ldImm x n8 (slotByte 0 (Operand8.reg x).index 6) s := by cases x <;> rfl

theorem encode_ldImmForm_reg (x : Reg8) (n8 : Byte) :
    encode (ldImmForm (.reg x) n8) = [slotByte 0 (Operand8.reg x).index 6, n8] := by cases x <;> rfl

section
variable {opcode : Byte} {s : State} (hm : s.cfg.models .primary opcode = true)
include hm

theorem ldReg_next (x y : Reg8) :
    ldReg x y opcode s = .next ((s.past 1 .primary opcode false 4).setReg x (s.reg y)) :=
  execSlot_ok hm (by rw [State.reg_advance, State.cyc_setReg, State.cyc_advance])

theorem ldImm_next (x : Reg8) (n8 : Byte) :
    ldImm x n8 opcode s = .next ((s.past 2 .primary opcode false 8).setReg x n8) :=
  execSlot_ok hm (by rw [State.cyc_setReg, State.cyc_advance])

end

/-- Settles O33: no form makes an access, so each answers its next state. -/
theorem loadRegisterResult : Obligations.LoadRegisterResult := by
  refine ⟨fun x y s => ⟨encode_ldForm _ _, fun hm => ?_⟩, fun x n8 s => ⟨encode_ldImmForm_reg x n8, fun hm => ?_⟩⟩
  · rw [exec_ldForm_reg, ldReg_next hm]
  · rw [exec_ldImmForm_reg, ldImm_next hm]

/-! ### The byte at HL -/

theorem exec_ldForm_fromHL (x : Reg8) (s : State) :
    exec (ldForm (.reg x) .atHL) s = ldFromHL x (slotByte 1 (Operand8.reg x).index 6) s := by cases x <;> rfl

theorem exec_ldForm_toHL (y : Reg8) (s : State) :
    exec (ldForm .atHL (.reg y)) s = ldToHL y (slotByte 1 6 (Operand8.reg y).index) s := by cases y <;> rfl

theorem exec_ld_atHL_n8 (n8 : Byte) (s : State) : exec (.ld_atHL_n8 n8) s = ldToHLImm n8 0x36#8 s := rfl

/-- Settles O34: one read at HL, whose byte goes to the register. -/
theorem loadFromHLResult : Obligations.LoadFromHLResult := by
  intro x s
  refine ⟨encode_ldForm _ .atHL, fun hm => ?_⟩
  rw [exec_ldForm_fromHL]
  exact execSlot_memRead_result (put := fun v u => u.setReg x v) hm rfl fun v u => u.cyc_setReg x v _ _ _ _

/-- Settles O35: one write at HL and nothing else. -/
theorem storeToHLResult : Obligations.StoreToHLResult := by
  refine ⟨fun y s => ⟨encode_ldForm .atHL _, fun hm => ?_⟩, fun n8 s => ⟨rfl, fun hm => ?_⟩⟩
  · rw [exec_ldForm_toHL]
    exact execSlot_memWrite_result (move := id) hm rfl
  · rw [exec_ld_atHL_n8]
    exact execSlot_memWrite_result (move := id) hm rfl

/-! ### The addresses of the accumulator's transfers -/

theorem State.cyc_post (s : State) (m : Mem16) (table : Table) (opcode : Byte) (taken : Bool) (n : Nat) :
    (m.post s).cyc table opcode taken n = m.post (s.cyc table opcode taken n) := by cases m <;> rfl

/-- The access moves no field but H and L. -/
theorem Mem16.post_frame (m : Mem16) (s : State) : m.post s = { s with h := (m.post s).h, l := (m.post s).l } := by
  cases m <;> rfl

theorem Mem16.hl_post_atHLI (s : State) : (Mem16.post .atHLI s).hl = BitVec.ofNat 16 (s.hl.toNat + 1) := by
  have hpost : (Mem16.post .atHLI s).hl = s.hl + 1#16 := s.reg16_setReg16_same .hl (s.hl + 1#16)
  rw [hpost, BitVec.ofNat_add, BitVec.ofNat_toNat, BitVec.setWidth_eq]

theorem Mem16.hl_post_atHLD (s : State) : (Mem16.post .atHLD s).hl = BitVec.ofNat 16 (s.hl.toNat + 65535) := by
  have hpost : (Mem16.post .atHLD s).hl = s.hl - 1#16 := s.reg16_setReg16_same .hl (s.hl - 1#16)
  rw [hpost, BitVec.ofNat_add, BitVec.ofNat_toNat, BitVec.setWidth_eq, BitVec.sub_eq_add_neg]
  rfl

/-- The page ends at 0xFFFF, so the addition does not wrap. -/
theorem toNat_highPage (n : Byte) : (highPage n).toNat = 0xFF00 + n.toNat := by
  have hn := n.isLt
  simp only [highPage, BitVec.toNat_add, BitVec.toNat_setWidth, BitVec.toNat_ofNat]
  omega

/-! ### The accumulator's transfers -/

theorem exec_storeAForm (m : Mem16) (s : State) :
    exec (storeAForm m) s = storeA m (slotByte 0 (2 * m.index) 2) s := by cases m <;> rfl

theorem exec_loadAForm (m : Mem16) (s : State) :
    exec (loadAForm m) s = loadA m (slotByte 0 (2 * m.index + 1) 2) s := by cases m <;> rfl

theorem encode_storeAForm_loadAForm (m : Mem16) :
    encode (storeAForm m) = [slotByte 0 (2 * m.index) 2] ∧
      encode (loadAForm m) = [slotByte 0 (2 * m.index + 1) 2] := by cases m <;> exact ⟨rfl, rfl⟩

theorem exec_ldh_atN8_A (n8 : Byte) (s : State) :
    exec (.ldh_atN8_A n8) s = storeAAt (highPage n8) 2 12 0xE0#8 s := rfl

theorem exec_ld_atC_A (s : State) : exec .ld_atC_A s = storeAHighC 0xE2#8 s := rfl

theorem exec_ld_atN16_A (n16 : Addr) (s : State) : exec (.ld_atN16_A n16) s = storeAAt n16 3 16 0xEA#8 s := rfl

theorem exec_ldh_A_atN8 (n8 : Byte) (s : State) :
    exec (.ldh_A_atN8 n8) s = loadAAt (highPage n8) 2 12 0xF0#8 s := rfl

theorem exec_ld_A_atC (s : State) : exec .ld_A_atC s = loadAHighC 0xF2#8 s := rfl

theorem exec_ld_A_atN16 (n16 : Addr) (s : State) : exec (.ld_A_atN16 n16) s = loadAAt n16 3 16 0xFA#8 s := rfl

/-- Settles O36: the addresses, then one write of A, after which HL moves where the form says so. -/
theorem storeAccumulatorResult : Obligations.StoreAccumulatorResult := by
  refine ⟨fun s n => ⟨rfl, rfl, rfl, rfl, rfl, rfl, Mem16.hl_post_atHLI s, Mem16.hl_post_atHLD s,
    fun m => m.post_frame s, toNat_highPage n⟩, fun s => ⟨fun m => ?_, ?_⟩⟩
  · refine ⟨(encode_storeAForm_loadAForm m).1, fun hm => ?_⟩
    rw [exec_storeAForm]
    exact execSlot_memWrite_result (move := m.post) hm rfl (fun u => u.cyc_post m _ _ _ _) fun u => u.post_mem m
  · rintro p (⟨n, rfl⟩ | rfl | ⟨n, rfl⟩)
    · refine ⟨rfl, fun hm => ?_⟩
      rw [exec_ldh_atN8_A]
      exact execSlot_memWrite_result (move := id) hm rfl
    · refine ⟨rfl, fun hm => ?_⟩
      rw [exec_ld_atC_A]
      exact execSlot_memWrite_result (move := id) hm rfl
    · refine ⟨rfl, fun hm => ?_⟩
      rw [exec_ld_atN16_A]
      exact execSlot_memWrite_result (move := id) hm rfl

/-- Settles O37: one read whose byte goes to A, after which HL moves where the form says so. -/
theorem loadAccumulatorResult : Obligations.LoadAccumulatorResult := by
  refine fun s => ⟨fun m => ⟨(encode_storeAForm_loadAForm m).2, fun hm => ?_⟩, ?_⟩
  · rw [exec_loadAForm]
    exact execSlot_memRead_result (put := fun v u => m.post (u.setReg .a v)) hm rfl
      fun v u => State.cyc_post _ m _ _ _ _
  · rintro p (⟨n, rfl⟩ | rfl | ⟨n, rfl⟩)
    · refine ⟨rfl, fun hm => ?_⟩
      rw [exec_ldh_A_atN8]
      exact execSlot_memRead_result (put := fun v u => u.setReg .a v) hm rfl
    · refine ⟨rfl, fun hm => ?_⟩
      rw [exec_ld_A_atC]
      exact execSlot_memRead_result (put := fun v u => u.setReg .a v) hm rfl
    · refine ⟨rfl, fun hm => ?_⟩
      rw [exec_ld_A_atN16]
      exact execSlot_memRead_result (put := fun v u => u.setReg .a v) hm rfl

end Sys2Proof.Machine
end

section
/-! The 16-bit loads, the store of SP and the 16-bit arithmetic (44_load16_arith16 R280 to R287; O38 to O42). -/

namespace Sys2Proof.Machine

/-! ### Pairs in the frame of an instruction -/

@[simp] theorem State.reg16_advance (s : State) (n : Nat) (r : Reg16) : (s.advance n).reg16 r = s.reg16 r := by
  cases r <;> rfl

theorem State.cyc_setReg16 (s : State) (r : Reg16) (v : Addr) (table : Table) (opcode : Byte) (taken : Bool) (n : Nat) :
    (s.setReg16 r v).cyc table opcode taken n = (s.cyc table opcode taken n).setReg16 r v := by cases r <;> rfl

/-- An instruction without a memory access that writes one pair and nothing else. -/
theorem execSlot_setReg16_next {table : Table} {opcode : Byte} {length cycles : Nat} {taken : Bool} {s : State}
    {op : State → Micro State} {r : Reg16} {v : Addr} (hm : s.cfg.models table opcode = true)
    (hop : op (s.advance length) = .ok (((s.advance length).setReg16 r v).cyc table opcode taken cycles)) :
    execSlot table opcode length op s = .next ((s.past length table opcode taken cycles).setReg16 r v) := by
  rw [State.cyc_setReg16, State.cyc_advance] at hop
  exact execSlot_ok hm hop

/-! ### LD r16,n16 and LD SP,HL -/

theorem exec_ld16Form (r : Reg16) (n16 : Addr) (s : State) :
    exec (ld16Form r n16) s = ld16 r n16 (slotByte 0 (2 * r.index) 1) s := by cases r <;> rfl

theorem encode_ld16Form (r : Reg16) (n16 : Addr) :
    encode (ld16Form r n16) = [slotByte 0 (2 * r.index) 1, loByte n16, hiByte n16] := by cases r <;> rfl

theorem exec_ld_SP_HL (s : State) : exec .ld_SP_HL s = ldSpHL 0xF9#8 s := rfl

/-- Settles O38: each form writes one pair, SP being one. -/
theorem loadPairResult : Obligations.LoadPairResult := by
  refine fun s => ⟨fun r n16 => ⟨encode_ld16Form r n16, fun hm => ?_⟩, rfl, fun hm => ?_⟩
  · rw [exec_ld16Form]
    exact execSlot_setReg16_next hm rfl
  · rw [exec_ld_SP_HL]
    exact execSlot_setReg16_next (r := .sp) (v := s.hl) hm rfl

/-! ### LD (n16),SP -/

theorem State.cyc_storeWord (s : State) (a v : Addr) (table : Table) (opcode : Byte) (taken : Bool) (n : Nat) :
    (s.storeWord a v).cyc table opcode taken n = (s.cyc table opcode taken n).storeWord a v := by
  rw [State.storeWord, State.cyc_store, State.cyc_store, State.storeWord]

/-- An instruction that writes one word and does nothing else: the next state, or which byte stops it. -/
theorem execSlot_memWrite2_result {table : Table} {opcode : Byte} {length cycles : Nat} {taken : Bool} {s : State}
    {op : State → Micro State} {a v : Addr} (hm : s.cfg.models table opcode = true)
    (hop : op (s.advance length) = (do
      let u ← (s.advance length).memWrite2 a v
      .ok (u.cyc table opcode taken cycles))) :
    let r := execSlot table opcode length op s
    let t := (s.past length table opcode taken cycles).storeWord a v
    (s.canWrite a = true → s.canWrite (a + 1#16) = true → r = .next t ∧
      ∀ b : Addr, t.cell b = if b = a + 1#16 then hiByte v else if b = a then loByte v else s.cell b) ∧
    (s.canWrite a = false → Stops r (.unimplementedMemoryAccess (.write (loByte v)) a s.pc)) ∧
    (s.canWrite a = true → s.canWrite (a + 1#16) = false →
      Stops r (.unimplementedMemoryAccess (.write (hiByte v)) (a + 1#16) s.pc)) := by
  rw [State.memWrite2_eq, State.canWrite_advance, State.canWrite_advance] at hop
  refine ⟨fun hlo hhi => ⟨?_, fun b => State.cell_storeWord _ _ _ _⟩, fun hlo => ?_, fun hlo hhi => ?_⟩
  · rw [if_pos hlo, if_pos hhi] at hop
    exact execSlot_ok hm (hop.trans (congrArg Except.ok (State.cyc_storeWord _ _ _ _ _ _ _)))
  · rw [hlo] at hop
    exact execSlot_stops hm hop
  · rw [hlo, hhi] at hop
    exact execSlot_stops hm hop

theorem exec_ld_atN16_SP (n16 : Addr) (s : State) : exec (.ld_atN16_SP n16) s = storeSP n16 0x08#8 s := rfl

/-- Settles O39: one write of the word in SP. -/
theorem storeStackPointerResult : Obligations.StoreStackPointerResult := by
  refine fun n16 s => ⟨rfl, fun hm => ?_⟩
  rw [exec_ld_atN16_SP]
  exact execSlot_memWrite2_result hm rfl

/-! ### INC r16 and DEC r16 -/

/-- A sum of naturals modulo 65536, as a sum of words. -/
theorem ofNat_toNat_add (x : Addr) (n : Nat) : BitVec.ofNat 16 (x.toNat + n) = x + BitVec.ofNat 16 n := by
  rw [BitVec.ofNat_add, BitVec.ofNat_toNat, BitVec.setWidth_eq]

/-- Adding 65535 is subtracting 1. -/
theorem ofNat_toNat_add_65535 (x : Addr) : BitVec.ofNat 16 (x.toNat + 65535) = x - 1#16 := by
  rw [ofNat_toNat_add, BitVec.sub_eq_add_neg]
  rfl

theorem exec_inc16Form (r : Reg16) (s : State) :
    exec (inc16Form r) s = inc16 r (slotByte 0 (2 * r.index) 3) s := by cases r <;> rfl

theorem exec_dec16Form (r : Reg16) (s : State) :
    exec (dec16Form r) s = dec16 r (slotByte 0 (2 * r.index + 1) 3) s := by cases r <;> rfl

theorem encode_inc16Form_dec16Form (r : Reg16) :
    encode (inc16Form r) = [slotByte 0 (2 * r.index) 3] ∧
      encode (dec16Form r) = [slotByte 0 (2 * r.index + 1) 3] := by cases r <;> exact ⟨rfl, rfl⟩

/-- Settles O41: each form writes its own pair and no flag. -/
theorem incDecPairResult : Obligations.IncDecPairResult := by
  intro r s
  obtain ⟨hinc, hdec⟩ := encode_inc16Form_dec16Form r
  refine ⟨⟨hinc, fun hm => ?_⟩, ⟨hdec, fun hm => ?_⟩⟩
  · rw [exec_inc16Form, ofNat_toNat_add]
    exact execSlot_setReg16_next hm (by rw [State.reg16_advance])
  · rw [exec_dec16Form, ofNat_toNat_add_65535]
    exact execSlot_setReg16_next hm (by rw [State.reg16_advance])

/-! ### ADD HL,r16 -/

/-- Reporting the cost commutes with the addition. -/
theorem addHL_cyc (v : Addr) (s : State) (table : Table) (opcode : Byte) (taken : Bool) (n : Nat) :
    (addHL v s).cyc table opcode taken n = addHL v (s.cyc table opcode taken n) := rfl

/-- The addition changes no field but H, L and F. -/
theorem addHL_frame (v : Addr) (s : State) : addHL v s = { s.setReg16 .hl (s.hl + v) with f := (addHL v s).f } := rfl

/-- Z is kept, N cleared, H and C are the carries out of bits 11 and 15 (44_load16_arith16 R286). -/
theorem addHL_flagsAre (v : Addr) (s : State) :
    (addHL v s).flagsAre s.zf false (decide (0x0FFF < s.hl.toNat % 0x1000 + v.toNat % 0x1000))
      (decide (0xFFFF < s.hl.toNat + v.toNat)) := by
  have hz : (s.setReg16 .hl (s.hl + v)).zf = s.zf := rfl
  simp [State.flagsAre, addHL, hz]

theorem addHL_lowNibble (v : Addr) (s : State) : (addHL v s).f &&& 0x0F#8 = s.f &&& 0x0F#8 := by simp [addHL]

theorem exec_addHLForm (r : Reg16) (s : State) :
    exec (addHLForm r) s = addHLReg r (slotByte 0 (2 * r.index + 1) 1) s := by cases r <;> rfl

theorem encode_addHLForm (r : Reg16) : encode (addHLForm r) = [slotByte 0 (2 * r.index + 1) 1] := by cases r <;> rfl

theorem addHLReg_next {r : Reg16} {opcode : Byte} {s : State} (hm : s.cfg.models .primary opcode = true) :
    addHLReg r opcode s = .next (addHL (s.reg16 r) (s.past 1 .primary opcode false 8)) :=
  execSlot_ok hm (by rw [State.reg16_advance, addHL_cyc, State.cyc_advance])

/-- Settles O42: the addition of the pair, by its frame and its flags. -/
theorem addToHLResult : Obligations.AddToHLResult := by
  refine fun r s => ⟨encode_addHLForm r, fun hm => ⟨_, (exec_addHLForm r s).trans (addHLReg_next hm), ?_,
    addHL_flagsAre _ _, addHL_lowNibble _ _⟩⟩
  have hsum : BitVec.ofNat 16 (s.hl.toNat + (s.reg16 r).toNat) = s.hl + s.reg16 r := (BitVec.add_def _ _).symm
  rw [hsum]
  exact addHL_frame _ _

/-! ### SP plus a displacement -/

/-- The displacement is signed, the sum is taken modulo 65536 (44_load16_arith16 R283, R287). -/
theorem ofInt_toNat_add_toInt (x : Addr) (e8 : Byte) :
    BitVec.ofInt 16 ((x.toNat : Int) + e8.toInt) = x + sext16 e8 := by
  rw [BitVec.ofInt_add, BitVec.ofInt_natCast, BitVec.ofNat_toNat, BitVec.setWidth_eq]
  rfl

/-- F with Z and N clear, from its bits H and C. -/
theorem packFlags_halfCarry_carry (h c : Prop) [Decidable h] [Decidable c] :
    packFlags false false (decide h) (decide c) =
      (if h then 0x20#8 else 0x00#8) ||| (if c then 0x10#8 else 0x00#8) := by
  have hbits : ∀ x y : Bool, packFlags false false x y =
      (if x = true then 0x20#8 else 0x00#8) ||| (if y = true then 0x10#8 else 0x00#8) := by decide
  simp only [hbits, decide_eq_true_eq]

/-- The flags of both forms come from the unsigned addition of the low bytes. -/
theorem spFlags_eq (sp : Addr) (e8 : Byte) (s : State) : spFlags sp e8 s = { s with f :=
    (if 0x0F < sp.toNat % 16 + e8.toNat % 16 then 0x20#8 else 0x00#8) |||
      (if 0xFF < sp.toNat % 256 + e8.toNat then 0x10#8 else 0x00#8) } := by
  rw [← packFlags_halfCarry_carry]
  rfl

section
variable {opcode : Byte} {s : State} (hm : s.cfg.models .primary opcode = true)
include hm

theorem ldHLSp_next (e8 : Byte) : ldHLSp e8 opcode s =
    .next (spFlags s.sp e8 ((s.past 2 .primary opcode false 12).setReg16 .hl (s.sp + sext16 e8))) := execSlot_ok hm rfl

theorem addSp_next (e8 : Byte) : addSp e8 opcode s =
    .next (spFlags s.sp e8 ((s.past 2 .primary opcode false 16).setReg16 .sp (s.sp + sext16 e8))) := execSlot_ok hm rfl

end

theorem exec_ld_HL_SPe8 (e8 : Byte) (s : State) : exec (.ld_HL_SPe8 e8) s = ldHLSp e8 0xF8#8 s := rfl

theorem exec_add_SP_e8 (e8 : Byte) (s : State) : exec (.add_SP_e8 e8) s = addSp e8 0xE8#8 s := rfl

/-- Settles O40: both forms take the one sum and the one F, to HL and to SP. -/
theorem stackPointerDisplacementResult : Obligations.StackPointerDisplacementResult := by
  intro e8 s
  rw [ofInt_toNat_add_toInt]
  refine ⟨⟨rfl, fun hm => ?_⟩, ⟨rfl, fun hm => ?_⟩⟩
  · rw [exec_ld_HL_SPe8, ldHLSp_next hm, spFlags_eq]
  · rw [exec_add_SP_e8, addSp_next hm, spFlags_eq]
    rfl

end Sys2Proof.Machine
end

section
/-! The rotates and shifts of both tables, BIT, RES and SET (45_rotate_bit R300 to R316; O32, O46 to O49). -/

namespace Sys2Proof.Machine

/-! ### The rotates and shifts by their laws -/

@[simp] theorem getLsbD_bitByte (b : Bool) (i : Nat) : (bitByte b).getLsbD i = (decide (i = 0) && b) := by
  cases b with
  | false => simp [bitByte]
  | true => simp [bitByte]

/-- The bit that leaves on the left, as a byte. -/
theorem bitByte_getLsbD_seven (v : Byte) : bitByte (v.getLsbD 7) = v >>> 7 := by
  apply BitVec.eq_of_getLsbD_eq
  intro i _
  rw [getLsbD_bitByte, BitVec.getLsbD_ushiftRight]
  cases i with
  | zero => rfl
  | succ i => exact (BitVec.getLsbD_of_ge v _ (by omega)).symm

/-- The bit that leaves on the right, moved to the top of a byte. -/
theorem bitByte_getLsbD_zero_shiftLeft (v : Byte) : bitByte (v.getLsbD 0) <<< 7 = v <<< 7 := by
  apply BitVec.eq_of_getLsbD_eq
  intro i hi
  rw [BitVec.getLsbD_shiftLeft, BitVec.getLsbD_shiftLeft, getLsbD_bitByte]
  obtain hlow | rfl : i < 7 ∨ i = 7 := by omega
  · simp [hlow]
  · rfl

theorem rotate_rlc (c : Bool) (v : Byte) : rotate .rlc c v = (v.rotateLeft 1, v.getLsbD 7) := by
  rw [rotate, bitByte_getLsbD_seven, BitVec.rotateLeft_def]

theorem rotate_rrc (c : Bool) (v : Byte) : rotate .rrc c v = (v.rotateRight 1, v.getLsbD 0) := by
  rw [rotate, bitByte_getLsbD_zero_shiftLeft, BitVec.rotateRight_def]

/-- RL moves each of the nine bits one place up: 7 to the carry, the carry to 0 (45_rotate_bit R307). -/
theorem rotate_rl (c : Bool) (v : Byte) :
    BitVec.ofBool (rotate .rl c v).2 ++ (rotate .rl c v).1 = (BitVec.ofBool c ++ v).rotateLeft 1 := by
  apply BitVec.eq_of_getLsbD_eq
  intro i hi
  simp only [rotate, BitVec.getLsbD_rotateLeft, BitVec.getLsbD_append, BitVec.getLsbD_or, BitVec.getLsbD_shiftLeft,
    BitVec.getLsbD_ofBool, getLsbD_bitByte]
  interval_cases i <;> simp

/-- RR moves each of the nine bits one place down: 0 to the carry, the carry to 7 (45_rotate_bit R308). -/
theorem rotate_rr (c : Bool) (v : Byte) :
    BitVec.ofBool (rotate .rr c v).2 ++ (rotate .rr c v).1 = (BitVec.ofBool c ++ v).rotateRight 1 := by
  apply BitVec.eq_of_getLsbD_eq
  intro i hi
  simp only [rotate, BitVec.getLsbD_rotateRight, BitVec.getLsbD_append, BitVec.getLsbD_or, BitVec.getLsbD_ushiftRight,
    BitVec.getLsbD_shiftLeft, BitVec.getLsbD_ofBool, getLsbD_bitByte]
  interval_cases i <;> simp

theorem getLsbD_zero_eq_odd (v : Byte) : v.getLsbD 0 = decide (v.toNat % 2 = 1) := Nat.testBit_zero _

theorem rotate_sla (c : Bool) (v : Byte) :
    rotate .sla c v = (BitVec.ofNat 8 (2 * v.toNat), decide (128 ≤ v.toNat)) := by
  have hdouble : v <<< 1 = BitVec.ofNat 8 (2 * v.toNat) := by
    apply BitVec.eq_of_toNat_eq
    rw [BitVec.toNat_shiftLeft, BitVec.toNat_ofNat, Nat.shiftLeft_eq, Nat.mul_comm]
  rw [rotate, hdouble]
  exact congrArg _ v.msb_eq_decide

theorem rotate_srl (c : Bool) (v : Byte) :
    rotate .srl c v = (BitVec.ofNat 8 (v.toNat / 2), decide (v.toNat % 2 = 1)) := by
  have hhalf : v >>> 1 = BitVec.ofNat 8 (v.toNat / 2) := by
    apply BitVec.eq_of_toNat_eq
    have hv := v.isLt
    rw [BitVec.toNat_ushiftRight, BitVec.toNat_ofNat, Nat.shiftRight_eq_div_pow]
    omega
  rw [rotate, hhalf, getLsbD_zero_eq_odd]

/-- Keeping bit 7 while the others move down is the shift of a signed byte (45_rotate_bit R310). -/
theorem ushiftRight_or_sign (v : Byte) : v >>> 1 ||| v &&& 0x80#8 = v.sshiftRight 1 := by
  have hmask : 0x80#8 = BitVec.twoPow 8 7 := rfl
  apply BitVec.eq_of_getLsbD_eq
  intro i hi
  rw [hmask, BitVec.getLsbD_sshiftRight, BitVec.getLsbD_or, BitVec.getLsbD_ushiftRight, BitVec.getLsbD_and,
    BitVec.getLsbD_twoPow]
  obtain hlow | rfl : 1 + i < 8 ∨ i = 7 := by omega
  · have hne : 7 ≠ i := by omega
    simp [hlow, hi, hne]
  · simp [BitVec.msb_eq_getLsbD_last]

theorem rotate_sra (c : Bool) (v : Byte) :
    rotate .sra c v = (BitVec.ofInt 8 (v.toInt / 2), decide (v.toNat % 2 = 1)) := by
  rw [rotate, ushiftRight_or_sign, getLsbD_zero_eq_odd, BitVec.sshiftRight_eq, Int.shiftRight_eq_div_pow]
  rfl

theorem rotate_swap (c : Bool) (v : Byte) : rotate .swap c v = (v.rotateLeft 4, false) := by
  rw [rotate, BitVec.rotateLeft_def]

/-- Settles O32, one law for each operation. -/
theorem rotatesAndShiftsByTheirLaws : Obligations.RotatesAndShiftsByTheirLaws := fun v c =>
  ⟨rotate_rlc c v, rotate_rrc c v, rotate_rl c v, rotate_rr c v, rotate_sla c v, rotate_srl c v, rotate_sra c v,
    rotate_swap c v⟩

/-! ### The rotates of A -/

/-- F of a rotate or shift: Z and C, with N and H clear. -/
theorem packFlags_zero_carry (z c : Bool) : packFlags z false false c =
    (if z = true then 0x80#8 else 0x00#8) ||| (if c = true then 0x10#8 else 0x00#8) := by
  revert z c
  decide

theorem rotateA_eq (k : RotOp) (s : State) :
    rotateA k s = { s with
      a := (rotate k s.cf s.a).1
      f := if (rotate k s.cf s.a).2 = true then 0x10#8 else 0x00#8 } := by
  simp [rotateA, State.setFlags, packFlags_zero_carry]

theorem rotateAcc_next {k : RotOp} {opcode : Byte} {s : State} (hm : s.cfg.models .primary opcode = true) :
    rotateAcc k opcode s = .next { s.past 1 .primary opcode false 4 with
      a := (rotate k s.cf s.a).1
      f := if (rotate k s.cf s.a).2 = true then 0x10#8 else 0x00#8 } :=
  execSlot_ok hm (congrArg Except.ok (rotateA_eq k (s.past 1 .primary opcode false 4)))

/-- Settles O46: the four are one meaning in four slots. -/
theorem rotateAccumulatorResult : Obligations.RotateAccumulatorResult := by
  intro s p hp
  simp only [List.mem_cons, List.not_mem_nil, or_false] at hp
  obtain rfl | rfl | rfl | rfl := hp
  · exact ⟨rfl, rotateAcc_next⟩
  · exact ⟨rfl, rotateAcc_next⟩
  · exact ⟨rfl, rotateAcc_next⟩
  · exact ⟨rfl, rotateAcc_next⟩

/-! ### The rotates and shifts of an operand -/

theorem rotateOperand_eq (k : RotOp) (o : Operand8) (opcode : Byte) : rotateOperand k o opcode =
    execSlot .extended opcode 2 (modifyOperand .extended opcode (o.cycles 8 16) o (fun t v => (rotate k t.cf v).1)
      fun t v u => u.setFlags ((rotate k t.cf v).1 == 0#8) false false (rotate k t.cf v).2) := rfl

theorem setFlags_zero_carry (s : State) (v : Byte) (c : Bool) : s.setFlags (v == 0#8) false false c = { s with f :=
    (if v = 0#8 then 0x80#8 else 0x00#8) ||| (if c = true then 0x10#8 else 0x00#8) } := by
  simp only [State.setFlags, packFlags_zero_carry, beq_iff_eq]

/-- Settles O47: the operand is read, its rotation written back, and F set from the result. -/
theorem rotateOperandResult : Obligations.RotateOperandResult := by
  refine fun k s => ⟨fun r => ⟨encode_rotForm k _, fun hm => ?_⟩, encode_rotForm k .atHL, fun hm => ?_⟩
  · rw [exec_rotForm, rotateOperand_eq, ← setFlags_zero_carry]
    exact modifyOperand_reg_result hm r fun _ _ _ => rfl
  · rw [exec_rotForm, rotateOperand_eq, ← setFlags_zero_carry]
    exact modifyOperand_atHL_result hm (fun _ _ _ => rfl) fun _ _ _ => rfl

/-! ### BIT -/

/-- BIT changes no field but F, and in it neither C nor the low nibble (45_rotate_bit R313). -/
theorem bitFlags_result (bit : Bool) (s : State) :
    let t := bitFlags bit s
    t = { s with f := t.f } ∧ t.flagsAre (!bit) false true s.cf ∧ t.f &&& 0x0F#8 = s.f &&& 0x0F#8 :=
  ⟨rfl, by simp [State.flagsAre, bitFlags], by simp [bitFlags]⟩

theorem bitFlags_cyc (bit : Bool) (s : State) (table : Table) (opcode : Byte) (taken : Bool) (n : Nat) :
    (bitFlags bit s).cyc table opcode taken n = bitFlags bit (s.cyc table opcode taken n) := rfl

section
variable {b : Nat} {opcode : Byte} {s : State} (hm : s.cfg.models .extended opcode = true)
include hm

theorem bitOperand_reg_next (r : Reg8) : bitOperand b (.reg r) opcode s =
    .next (bitFlags ((s.reg r).getLsbD b) (s.past 2 .extended opcode false 8)) := by
  refine execSlot_ok hm ?_
  rw [← State.reg_advance s 2 r, ← State.cyc_advance, ← bitFlags_cyc]
  rfl

theorem bitOperand_atHL_result :
    let r := bitOperand b .atHL opcode s
    (s.canRead s.hl = true →
      r = .next (bitFlags ((s.byteAt s.hl).getLsbD b) (s.past 2 .extended opcode false 12))) ∧
    (s.canRead s.hl = false → Stops r (.unimplementedMemoryAccess .read s.hl s.pc)) :=
  execSlot_memRead_result (put := fun v u => bitFlags (v.getLsbD b) u) hm rfl

end

/-- Settles O48: one read of the operand, whose bit goes to Z. -/
theorem bitTestResult : Obligations.BitTestResult := by
  intro b s
  refine ⟨fun r => ⟨(encode_bitForms b.isLt _).1, fun hm => ?_⟩, (encode_bitForms b.isLt .atHL).1, fun hm => ?_⟩
  · exact ⟨_, (exec_bitForm b.isLt _ s).trans (bitOperand_reg_next hm r), bitFlags_result _ _⟩
  · rw [exec_bitForm b.isLt]
    obtain ⟨hnext, hstops⟩ := bitOperand_atHL_result (b := b.val) hm
    exact ⟨fun hr => ⟨_, hnext hr, bitFlags_result _ _⟩, hstops⟩

/-! ### RES and SET -/

/-- One bit of a byte written, the others kept (45_rotate_bit R314, R315). -/
def putBit (b : Nat) (bit : Bool) (v : Byte) : Byte := putMask v (BitVec.twoPow 8 b) bit

theorem getLsbD_putBit {b : Nat} (hb : b < 8) (bit : Bool) (v : Byte) :
    ∀ j < 8, (putBit b bit v).getLsbD j = if j = b then bit else v.getLsbD j := by
  intro j hj
  rw [putBit, putMask_getLsbD _ _ _ hj, BitVec.getLsbD_twoPow]
  simp [hb, eq_comm]

/-- The instruction that writes one bit of an operand: RES and SET. -/
def putBitOperand (b : Nat) (bit : Bool) (o : Operand8) (opcode : Byte) : State → Result :=
  execSlot .extended opcode 2
    (modifyOperand .extended opcode (o.cycles 8 16) o (fun _ v => putBit b bit v) fun _ _ u => u)

theorem resOperand_eq_putBitOperand (b : Nat) : resOperand b = putBitOperand b false := rfl

theorem setOperand_eq_putBitOperand (b : Nat) : setOperand b = putBitOperand b true := rfl

theorem putBitOperand_reg_next {b : Nat} {bit : Bool} {opcode : Byte} {s : State}
    (hm : s.cfg.models .extended opcode = true) (r : Reg8) : putBitOperand b bit (.reg r) opcode s =
      .next ((s.past 2 .extended opcode false 8).setReg r (putBit b bit (s.reg r))) :=
  modifyOperand_reg_result hm r fun _ _ _ => rfl

/-- Settles O49: both write one bit of the operand and set no flag. -/
theorem resSetResult : Obligations.ResSetResult := by
  constructor
  · intro b r s p hp
    obtain ⟨-, hres, hset⟩ := encode_bitForms b.isLt (.reg r)
    obtain rfl | rfl : _ ∨ _ := by simpa only [List.mem_cons, List.not_mem_nil, or_false] using hp
    · refine ⟨hres, fun hm => ⟨_, getLsbD_putBit b.isLt false _, ?_⟩⟩
      rw [exec_resForm b.isLt, resOperand_eq_putBitOperand, putBitOperand_reg_next hm]
    · refine ⟨hset, fun hm => ⟨_, getLsbD_putBit b.isLt true _, ?_⟩⟩
      rw [exec_setForm b.isLt, setOperand_eq_putBitOperand, putBitOperand_reg_next hm]
  · intro b s p hp
    obtain ⟨-, hres, hset⟩ := encode_bitForms b.isLt .atHL
    obtain rfl | rfl : _ ∨ _ := by simpa only [List.mem_cons, List.not_mem_nil, or_false] using hp
    · refine ⟨hres, fun hm => ⟨_, getLsbD_putBit b.isLt false _, ?_⟩⟩
      rw [exec_resForm b.isLt, resOperand_eq_putBitOperand]
      exact modifyOperand_atHL_result hm (fun _ _ _ => rfl) fun _ _ _ => rfl
    · refine ⟨hset, fun hm => ⟨_, getLsbD_putBit b.isLt true _, ?_⟩⟩
      rw [exec_setForm b.isLt, setOperand_eq_putBitOperand]
      exact modifyOperand_atHL_result hm (fun _ _ _ => rfl) fun _ _ _ => rfl

end Sys2Proof.Machine
end

section
/-! The updates after an instruction: the scanline machine's one transition, the frame pulse, and the accumulator below
its threshold, which every step keeps (60_exceptions R345 to R352; O7, O25, O26). -/

namespace Sys2Proof.Machine

/-! ### The scanline update -/

theorem nextRow_eq_ofNat (row : Byte) :
    nextRow row = if row = 153#8 then 0#8 else BitVec.ofNat 8 (row.toNat + 1) := by
  rw [nextRow, BitVec.ofNat_add, BitVec.ofNat_toNat, BitVec.setWidth_eq]

/-- What M holds after a byte of it is written, the cells named by their addresses. -/
theorem Memory.read_write_addr (m : Memory) (a b : Addr) (v : Byte) :
    Memory.read (Memory.write m a.toNat v) b.toNat = if b = a then v else Memory.read m b.toNat := by
  split
  case isTrue h => rw [h, Memory.read_write_same]
  case isFalse h => exact Memory.read_write_other _ _ _ _ fun e => h (BitVec.eq_of_toNat_eq e)

section
variable {s : State} {n : Nat}

/-- Below the threshold of the phase there is no transition. -/
theorem scanlineUpdate_below (h : s.scanCycles + n < s.phase.threshold) :
    scanlineUpdate n s = { s with scanCycles := s.scanCycles + n } := if_neg (Nat.not_le.mpr h)

theorem scanlineUpdate_oamSearch (hp : s.phase = .oamSearch) (h : 80 ≤ s.scanCycles + n) :
    scanlineUpdate n s = { s with scanCycles := s.scanCycles + n - 80, phase := .pixelTransfer } := by
  simp [scanlineUpdate, transition, hp, Phase.threshold, h]

theorem scanlineUpdate_pixelTransfer (hp : s.phase = .pixelTransfer) (h : 172 ≤ s.scanCycles + n) :
    scanlineUpdate n s = { s with scanCycles := s.scanCycles + n - 172, phase := .hblank } := by
  simp [scanlineUpdate, transition, hp, Phase.threshold, h]

theorem scanlineUpdate_hblank (hp : s.phase = .hblank) (h : 204 ≤ s.scanCycles + n) :
    scanlineUpdate n s =
      { s with
        scanCycles := s.scanCycles + n - 204, phase := .oamSearch
        mem := Memory.write s.mem s.cfg.lyAddr.toNat (nextRow s.row) } := by
  have hrow : scanlineUpdate n s =
      rowIncrement { s with scanCycles := s.scanCycles + n - 204, phase := .oamSearch } := by
    simp [scanlineUpdate, transition, hp, Phase.threshold, h]
  rw [hrow]
  rfl

end

/-- Settles O25, phase by phase; the row written at the end of horizontal blank is `nextRow`. -/
theorem scanlineUpdateMakesOneTransition : Obligations.ScanlineUpdateMakesOneTransition := by
  intro s n
  refine ⟨scanlineUpdate_oamSearch, scanlineUpdate_pixelTransfer,
    fun hp h => ⟨_, scanlineUpdate_hblank hp h, fun a => ?_⟩, fun h => scanlineUpdate_below ?_⟩
  · rw [Memory.read_write_addr, nextRow_eq_ofNat, State.cell]
  · obtain ⟨hp, hlt⟩ | ⟨hp, hlt⟩ | ⟨hp, hlt⟩ := h <;> exact hp ▸ hlt

/-! ### The latch and the frame update -/

theorem bootLatch_eq (s : State) :
    bootLatch s = { s with bootEnabled := s.bootEnabled && decide (s.pc ≠ 0x0100#16) } := by
  unfold bootLatch
  split
  case isTrue h => simp [h]
  case isFalse h => simp [h]

/-- Settles O26: the latch check as one Boolean, and the two cases of the frame update. -/
theorem frameUpdateEmitsOnePulsePerBudget : Obligations.FrameUpdateEmitsOnePulsePerBudget :=
  ⟨fun s => by rw [afterInstruction, bootLatch_eq],
    fun _ _ => ⟨fun h => if_pos h, fun h => if_neg (Nat.not_le.mpr h)⟩⟩

/-! ### The accumulator stays below its threshold -/

/-- CYCLES gives one of its listed figures or the default (41_dispatch R201). -/
theorem costIn_eq_default_or_mem (entries : List CycleEntry) (table : Table) (opcode : Byte) (taken : Bool)
    (default : Nat) :
    costIn entries table opcode taken default = default ∨
      ∃ e ∈ entries, costIn entries table opcode taken default = e.cycles := by
  induction entries with
  | nil => exact .inl rfl
  | cons e rest ih =>
    unfold costIn
    split
    · exact .inr ⟨e, List.mem_cons_self, rfl⟩
    · exact ih.imp_right fun ⟨d, hd, heq⟩ => ⟨d, List.mem_cons_of_mem e hd, heq⟩

theorem cost_lt_80 {c : Config} (hc : c.costsBelow80) (table : Table) (opcode : Byte) (taken : Bool) {default : Nat}
    (hd : default < 80) : c.cost table opcode taken default < 80 := by
  obtain h | ⟨e, he, h⟩ := costIn_eq_default_or_mem c.cycles table opcode taken default <;> rw [Config.cost, h]
  · exact hd
  · exact hc e he

/-- The default figures are at most 24, so no instruction reports 80 or more (70_reset_and_hazards R395, R396). -/
theorem exec_instrCycles_lt_80 {i : Instr} {s t : State} (hc : s.cfg.costsBelow80) (h : exec i s.beginStep = .next t) :
    t.instrCycles < 80 := by
  obtain ⟨u, table, opcode, taken, n, hu, -, h24, rfl⟩ := exec_next h
  have hcfg : u.cfg = s.cfg := hu.cfg
  have hzero : u.instrCycles = 0 := hu.cost
  rw [State.cyc_instrCycles, hzero, Nat.zero_add, hcfg]
  exact cost_lt_80 hc table opcode taken (by omega)

theorem threshold_bounds (p : Phase) : 80 ≤ p.threshold ∧ p.threshold ≤ 204 := by cases p <;> decide

/-- A transition keeps what the count exceeds the threshold by (60_exceptions R346). -/
theorem scanlineUpdate_scanCycles {s : State} {n : Nat} (h : s.phase.threshold ≤ s.scanCycles + n) :
    (scanlineUpdate n s).scanCycles = s.scanCycles + n - s.phase.threshold := by
  cases hp : s.phase <;> rw [hp] at h
  case oamSearch => rw [scanlineUpdate_oamSearch hp h]; rfl
  case pixelTransfer => rw [scanlineUpdate_pixelTransfer hp h]; rfl
  case hblank => rw [scanlineUpdate_hblank hp h]; rfl

/-- What one transition carries over is less than the cost, so below the least threshold (60_exceptions R349). -/
theorem scanlineUpdate_lt_threshold {s : State} {n : Nat} (hn : n < 80) (h : s.scanCycles < s.phase.threshold) :
    (scanlineUpdate n s).scanCycles < (scanlineUpdate n s).phase.threshold := by
  by_cases hle : s.phase.threshold ≤ s.scanCycles + n
  · have hleast := (threshold_bounds (scanlineUpdate n s).phase).1
    rw [scanlineUpdate_scanCycles hle]
    omega
  · rw [scanlineUpdate_below (Nat.not_le.mp hle)]
    exact Nat.not_le.mp hle

@[simp] theorem bootLatch_phase (s : State) : (bootLatch s).phase = s.phase := by rw [bootLatch_eq]
@[simp] theorem bootLatch_scanCycles (s : State) : (bootLatch s).scanCycles = s.scanCycles := by rw [bootLatch_eq]
@[simp] theorem frameUpdate_phase (n : Nat) (s : State) : (frameUpdate n s).phase = s.phase := by
  unfold frameUpdate; dsimp only; split <;> rfl
@[simp] theorem frameUpdate_scanCycles (n : Nat) (s : State) : (frameUpdate n s).scanCycles = s.scanCycles := by
  unfold frameUpdate; dsimp only; split <;> rfl

theorem afterInstruction_scanSafe {s : State} (hn : s.instrCycles < 80) (h : s.scanSafe) :
    (afterInstruction s).scanSafe := by
  obtain ⟨hcosts, hscan⟩ := h
  refine ⟨(afterInstruction_cfg s).symm ▸ hcosts, ?_⟩
  rw [afterInstruction, frameUpdate_scanCycles, frameUpdate_phase]
  exact scanlineUpdate_lt_threshold hn (by rwa [bootLatch_scanCycles, bootLatch_phase])

theorem exec_scanSafe {i : Instr} {s t : State} (h : exec i s = .next t) (hs : s.scanSafe) : t.scanSafe := by
  obtain ⟨u, table, opcode, taken, n, hu, -, -, rfl⟩ := exec_next h
  obtain ⟨hcosts, hscan⟩ := hs
  refine ⟨hu.cfg.symm ▸ hcosts, ?_⟩
  rwa [State.cyc_scanCycles, State.cyc_phase, hu.scan, hu.phase]

theorem step_scanSafe {s t : State} (h : step s = .next t) (hs : s.scanSafe) : t.scanSafe := by
  obtain ⟨-, rfl⟩ | ⟨-, -, i, u, -, hu, rfl⟩ := step_next h
  · exact hs
  · exact afterInstruction_scanSafe (exec_instrCycles_lt_80 hs.1 hu) (exec_scanSafe hu hs)

/-- Settles O7: the invariant is `State.scanSafe`, and no threshold is above 204. -/
theorem stepKeepsScanCyclesBelowThreshold : Obligations.StepKeepsScanCyclesBelowThreshold := by
  intro s t hcosts hscan h
  obtain ⟨hcosts', hscan'⟩ := step_scanSafe h ⟨hcosts, hscan⟩
  have hmost := (threshold_bounds t.phase).2
  exact ⟨hcosts', hscan', by omega⟩

end Sys2Proof.Machine
end

section
/-! The fatal error of a step: which one a fetch meets first, and that an instruction's own names a cause that holds
(60_exceptions R330 to R334; O20, O23). The order of R334 stands once, in `fetchFailure`. -/

namespace Sys2Proof.Machine

/-! ### What a fetch can meet -/

/-- The fatal error of reading a byte of the instruction that begins at `pc0`, if the read is turned down. -/
def readFailure (s : State) (pc0 a : Addr) : Option FatalError :=
  if s.canRead a then none else some (.unimplementedMemoryAccess .read a pc0)

/-- The fatal error of a slot, if the parameters leave it out (41_dispatch R204). -/
def slotFailure (s : State) (pc0 : Addr) (table : Table) (opcode : Byte) : Option FatalError :=
  if s.cfg.models table opcode then none else some (.unimplementedOpcode table opcode pc0)

/-- The operand bytes of an opcode, in address order from `a` on. -/
def operandFailure (s : State) (pc0 a : Addr) (op : Byte) : Option FatalError :=
  (if 1 ≤ operandCount op then readFailure s pc0 a else none).or
    (if 2 ≤ operandCount op then readFailure s pc0 (a + 1#16) else none)

/-- The first fatal error of the fetch at PC, in the order of 60_exceptions R334: opcode byte, extended byte, slot,
operand bytes. -/
def fetchFailure (s : State) : Option FatalError :=
  (readFailure s s.pc s.pc).or <|
    if s.byteAt s.pc = 0xCB#8 then
      (readFailure s s.pc (s.pc + 1#16)).or (slotFailure s s.pc .extended (s.byteAt (s.pc + 1#16)))
    else (slotFailure s s.pc .primary (s.byteAt s.pc)).or (operandFailure s s.pc (s.pc + 1#16) (s.byteAt s.pc))

/-- The record of a fetch that failed. -/
def failureOf {α : Type} (r : Except FetchError α) : Option FatalError :=
  match r with
  | .ok _ => none
  | .error x => some x.record

theorem failureOf_eq_none {α : Type} {r : Except FetchError α} (h : failureOf r = none) : ∃ v, r = .ok v := by
  cases r with
  | ok v => exact ⟨v, rfl⟩
  | error x => cases h

theorem failureOf_eq_some {α : Type} {r : Except FetchError α} {e : FatalError} (h : failureOf r = some e) :
    ∃ t, r = .error ⟨e, t⟩ := by
  cases r with
  | ok v => cases h
  | error x =>
    cases h
    exact ⟨x.stopped, rfl⟩

theorem fetchByte_eq (pc0 : Addr) (s : State) :
    fetchByte pc0 s =
      if s.canRead s.pc then .ok (s.byteAt s.pc, s.advance 1)
      else .error ⟨.unimplementedMemoryAccess .read s.pc pc0, s⟩ := by
  rw [fetchByte, State.fetch8, State.memRead_eq]
  cases s.canRead s.pc <;> rfl

section
variable {α : Type} (pc0 : Addr) (s : State)

theorem failureOf_fetchByte_bind (k : Byte × State → Except FetchError α) :
    failureOf (fetchByte pc0 s >>= k) = (readFailure s pc0 s.pc).or (failureOf (k (s.byteAt s.pc, s.advance 1))) := by
  rw [fetchByte_eq, readFailure]
  cases s.canRead s.pc <;> rfl

theorem failureOf_checkSlot_bind (table : Table) (opcode : Byte) (k : Unit → Except FetchError α) :
    failureOf (checkSlot pc0 table opcode s >>= k) = (slotFailure s pc0 table opcode).or (failureOf (k ())) := by
  rw [checkSlot, slotFailure]
  cases s.cfg.models table opcode <;> rfl

theorem failureOf_fetchOperands (op : Byte) :
    failureOf (fetchOperands pc0 op s) = operandFailure s pc0 s.pc op := by
  unfold fetchOperands operandFailure
  split
  case h_1 h => rw [h]; rfl
  case h_2 h => rw [failureOf_fetchByte_bind, h]; rfl
  case h_3 h0 h1 =>
    have h2 : 2 ≤ operandCount op := (Nat.two_le_iff _).mpr ⟨h0, h1⟩
    rw [failureOf_fetchByte_bind, failureOf_fetchByte_bind, if_pos h2, if_pos (by omega)]
    simp only [failureOf, Option.or_none]
    rfl

end

/-- The fetch fails as `fetchFailure` says. -/
theorem failureOf_fetchInstr (s : State) : failureOf (fetchInstr s) = fetchFailure s := by
  rw [fetchInstr, failureOf_fetchByte_bind, fetchFailure]
  dsimp only
  congr 1
  split
  · rw [failureOf_fetchByte_bind, failureOf_checkSlot_bind]
    simp only [failureOf, Option.or_none]
    rfl
  · rw [failureOf_checkSlot_bind, failureOf_fetchOperands]
    rfl

theorem step_stops_of_fetchFailure {s : State} {e : FatalError} (hs : s.running) (h : fetchFailure s = some e) :
    Stops (step s) e := by
  obtain ⟨t, ht⟩ := failureOf_eq_some ((failureOf_fetchInstr s.beginStep).trans h)
  rw [step_of_fetchError hs ht]
  exact stops_raise e t

/-- Settles O20: each clause picks the first failure of `fetchFailure`. -/
theorem fetchErrorsComeInOrder : Obligations.FetchErrorsComeInOrder := by
  intro s hs
  refine ⟨fun h0 => ?_, fun h0 hop => ⟨fun h1 => ?_, fun h1 hm => ?_⟩,
    fun h0 hop => ⟨fun hm => ?_, fun hm hn h1 => ?_, fun hm hn h1 h2 => ?_⟩⟩ <;>
    apply step_stops_of_fetchFailure hs
  · simp [fetchFailure, readFailure, h0]
  · simp [fetchFailure, readFailure, h0, hop, h1]
  · simp [fetchFailure, readFailure, slotFailure, h0, hop, h1, hm]
  · simp [fetchFailure, readFailure, slotFailure, h0, hop, hm]
  · simp [fetchFailure, readFailure, slotFailure, operandFailure, h0, hop, hm, hn, h1]
  · have htwo : s.pc + 1#16 + 1#16 = s.pc + 2#16 := by rw [BitVec.add_assoc]; rfl
    simp [fetchFailure, readFailure, slotFailure, operandFailure, h0, hop, hm, hn, h1, htwo, h2]

/-! ### The causes -/

theorem readFailure_causedIn {s : State} {pc0 a : Addr} {e : FatalError} (h : readFailure s pc0 a = some e) :
    e.causedIn s pc0 := by
  unfold readFailure at h
  split at h
  · cases h
  case isFalse hr =>
    cases h
    exact ⟨rfl, Bool.eq_false_iff.mpr hr⟩

theorem slotFailure_causedIn {s : State} {pc0 : Addr} {table : Table} {opcode : Byte} {e : FatalError}
    (h : slotFailure s pc0 table opcode = some e) : e.causedIn s pc0 := by
  unfold slotFailure at h
  split at h
  · cases h
  case isFalse hm =>
    cases h
    exact ⟨rfl, Bool.eq_false_iff.mpr hm⟩

theorem operandFailure_causedIn {s : State} {pc0 a : Addr} {op : Byte} {e : FatalError}
    (h : operandFailure s pc0 a op = some e) : e.causedIn s pc0 := by
  obtain h | ⟨-, h⟩ := Option.or_eq_some_iff.mp h <;> split at h
  · exact readFailure_causedIn h
  · cases h
  · exact readFailure_causedIn h
  · cases h

theorem fetchFailure_causedIn {s : State} {e : FatalError} (h : fetchFailure s = some e) : e.causedIn s s.pc := by
  obtain h | ⟨-, h⟩ := Option.or_eq_some_iff.mp h
  · exact readFailure_causedIn h
  · split at h <;> obtain h | ⟨-, h⟩ := Option.or_eq_some_iff.mp h
    · exact readFailure_causedIn h
    · exact slotFailure_causedIn h
    · exact slotFailure_causedIn h
    · exact operandFailure_causedIn h

/-- A next state, or a fatal error with a cause that holds in `s`, for an instruction that begins at `s.pc`; so no refusal
(60_exceptions R331, R332). -/
def NextOrCaused (s : State) (r : Result) : Prop :=
  (∃ t, r = .next t) ∨ ∃ e t, r = raise e t ∧ e.causedIn s s.pc

theorem NextOrCaused.next {s t : State} : NextOrCaused s (.next t) := .inl ⟨t, rfl⟩

theorem NextOrCaused.raised {s : State} {e : FatalError} (h : e.causedIn s s.pc) (t : State) :
    NextOrCaused s (raise e t) := .inr ⟨e, t, rfl, h⟩

theorem NextOrCaused.fault {s : State} {r : Result} (h : NextOrCaused s r) {f : Fault} (hf : r = .fault f) :
    ∃ e, Stops (.fault f) e ∧ e.causedIn s s.pc := by
  obtain ⟨t, rfl⟩ | ⟨e, t, rfl, hcause⟩ := h
  · cases hf
  · exact ⟨e, hf ▸ stops_raise e t, hcause⟩

theorem NextOrCaused.ne_refused {s : State} {r : Result} (h : NextOrCaused s r) (q : Refusal) : r ≠ .refused q := by
  obtain ⟨t, rfl⟩ | ⟨e, t, rfl, -⟩ := h
  · nofun
  · exact raise_ne_refused e t q

theorem NextOrCaused.finish {s : State} {r : Result} (h : NextOrCaused s r) : NextOrCaused s (finish r) := by
  obtain ⟨t, rfl⟩ | ⟨e, t, rfl, hcause⟩ := h
  · exact .next
  · rw [finish_raise]
    exact .raised hcause t

theorem BadAccess.record_causedIn {x : BadAccess} {s : State} (h : x.turnedDown s) (pc0 : Addr) :
    (x.record pc0).causedIn s pc0 := by
  obtain ⟨access, addr, stopped⟩ := x
  cases access <;> exact ⟨rfl, h⟩

theorem unimplementedSlot_nextOrCaused {table : Table} {opcode : Byte} {s : State}
    (hm : s.cfg.models table opcode = false) : NextOrCaused s (unimplementedSlot table opcode s) :=
  .inr ⟨_, _, rfl, rfl, hm⟩

/-- The frame of an instruction adds one cause to those of its operation: the slot. -/
theorem Runs.nextOrCaused {table : Table} {opcode : Byte} {f : State → Result} (h : Runs table opcode f) (s : State) :
    NextOrCaused s (f s) := by
  obtain ⟨n, op, hfacts, heq⟩ := h
  rw [heq]
  cases hm : s.cfg.models table opcode with
  | false =>
    rw [execSlot_unmodeled hm]
    exact unimplementedSlot_nextOrCaused hm
  | true =>
    have hop := hfacts (s.advance n)
    cases ho : op (s.advance n) with
    | ok t =>
      rw [execSlot_ok hm ho]
      exact .next
    | error x =>
      rw [ho] at hop
      rw [execSlot_bad hm ho]
      exact .raised (BadAccess.record_causedIn (turnedDown_congr (Changes.advance s n) hop) s.pc) _

theorem exec_cbPrefix_nextOrCaused (s : State) : NextOrCaused s (exec .cbPrefix s) := by
  rw [exec_cbPrefix]
  split
  · exact (execExtended_runs _).nextOrCaused s
  case isFalse hr => exact .inr ⟨_, _, rfl, rfl, Bool.eq_false_iff.mpr hr⟩

theorem exec_nextOrCaused (i : Instr) (s : State) : NextOrCaused s (exec i s) := by
  cases hw : i.wellFormed with
  | true =>
    obtain hruns | ⟨hnever, hexec⟩ := exec_slotFacts i hw
    · exact hruns.nextOrCaused s
    · rw [hexec]
      exact unimplementedSlot_nextOrCaused (hnever s.cfg)
  | false =>
    have hi : i = .cbPrefix := by
      unfold Instr.wellFormed at hw
      split at hw
      · rfl
      · cases hw
    rw [hi]
    exact exec_cbPrefix_nextOrCaused s

/-- A step that runs fails in its fetch, or as the instruction it fetched does. -/
theorem step_nextOrCaused {s : State} (hs : s.running) : NextOrCaused s (step s) := by
  have hfetch := failureOf_fetchInstr s.beginStep
  cases hfail : fetchFailure s.beginStep with
  | some e =>
    obtain ⟨t, ht⟩ := failureOf_eq_some (hfetch.trans hfail)
    rw [step_of_fetchError hs ht]
    exact .raised (fetchFailure_causedIn (s := s) hfail) t
  | none =>
    obtain ⟨i, hi⟩ := failureOf_eq_none (hfetch.trans hfail)
    rw [step_of_fetched hs hi]
    have h : NextOrCaused s (exec i s.beginStep) := exec_nextOrCaused i s.beginStep
    exact h.finish

theorem step_ne_refused (s : State) (q : Refusal) : step s ≠ .refused q := by
  cases hr : s.hostRunning with
  | false =>
    rw [step_of_hostStopped hr]
    nofun
  | true =>
    cases hf : s.fault with
    | some e =>
      rw [step_of_fault hr hf]
      nofun
    | none => exact (step_nextOrCaused ⟨hr, hf⟩).ne_refused q

/-- Settles O23: a step and an instruction are `NextOrCaused`. -/
theorem onlyTheListedCausesAreFatal : Obligations.OnlyTheListedCausesAreFatal :=
  ⟨fun _ hs _ => (step_nextOrCaused hs).fault, fun i s _ => (exec_nextOrCaused i s).fault, step_ne_refused,
    fun i s => (exec_nextOrCaused i s).ne_refused⟩

end Sys2Proof.Machine
end

section
/-! CYCLES and the cost an instruction reports (41_dispatch R201, 70_reset_and_hazards R396; O24). Two states that differ in
CYCLES and in the cost reported so far run side by side: each access is turned down in both or in neither, the states reached
still differ in these two alone, and only `State.cyc` makes the two costs drift apart. First the changes of a state, then the
memory accesses, then the operation of each shape of instruction, and last the instructions block by block of the opcode
maps. -/

namespace Sys2Proof.Machine

/-- The state with other exceptions to the default CYCLES, and another cost reported so far. -/
def State.retimed (s : State) (entries : List CycleEntry) (n : Nat) : State :=
  { s with instrCycles := n, cfg := { s.cfg with cycles := entries } }

/-- The second state is the first but for these exceptions to the default CYCLES and the cost reported. -/
def Retimed (entries : List CycleEntry) (s t : State) : Prop := ∃ n, t = s.retimed entries n

/-- Two answers of a micro-operation: both give a value, and the values are related, or both are turned down. -/
inductive MicroAgree {α : Type} (R : α → α → Prop) : Micro α → Micro α → Prop where
  | ok {a b : α} (h : R a b) : MicroAgree R (.ok a) (.ok b)
  | error (x y : BadAccess) : MicroAgree R (.error x) (.error y)

/-- One micro-operation after another. -/
theorem MicroAgree.bind {α β : Type} {R : α → α → Prop} {Q : β → β → Prop} {x y : Micro α} {k l : α → Micro β}
    (h : MicroAgree R x y) (hk : ∀ a b, R a b → MicroAgree Q (k a) (l b)) : MicroAgree Q (x >>= k) (y >>= l) := by
  cases h with
  | ok hab => exact hk _ _ hab
  | error x y => exact .error x y

theorem MicroAgree.ite {α : Type} {R : α → α → Prop} {b : Bool} {x y p q : Micro α} (h : MicroAgree R x p)
    (k : MicroAgree R y q) : MicroAgree R (if b then x else y) (if b then p else q) := by
  cases b
  · exact k
  · exact h

section
variable {entries : List CycleEntry} (s : State) (n : Nat)

/-! ### Changes of a state -/

theorem State.setReg_retimed (r : Reg8) (v : Byte) :
    (s.retimed entries n).setReg r v = (s.setReg r v).retimed entries n := by cases r <;> rfl

theorem State.setReg16_retimed (r : Reg16) (v : Addr) :
    (s.retimed entries n).setReg16 r v = (s.setReg16 r v).retimed entries n := by cases r <;> rfl

theorem State.setStk_retimed (r : Stk16) (v : Addr) :
    (s.retimed entries n).setStk r v = (s.setStk r v).retimed entries n := by cases r <;> rfl

theorem Mem16.post_retimed (m : Mem16) : m.post (s.retimed entries n) = (m.post s).retimed entries n := by
  cases m <;> rfl

theorem alu_retimed (k : AluOp) (v : Byte) : alu k v (s.retimed entries n) = (alu k v s).retimed entries n := by
  cases k <;> rfl

theorem State.store_retimed (a : Addr) (v : Byte) :
    (s.retimed entries n).store a v = (s.store a v).retimed entries n := by
  unfold State.store
  dsimp only
  split
  · rfl
  · rfl

/-- Reporting a cost is where CYCLES is looked up: the two costs may differ, and nothing else does. -/
theorem MicroAgree.cost {u v : State} {table : Table} {opcode : Byte} {taken : Bool} {default : Nat}
    (h : v = u.retimed entries n) :
    MicroAgree (Retimed entries) (.ok (u.cyc table opcode taken default)) (.ok (v.cyc table opcode taken default)) := by
  subst h
  exact .ok ⟨_, rfl⟩

/-! ### Memory accesses -/

theorem MicroAgree.memRead (a : Addr) : MicroAgree Eq (s.memRead a) ((s.retimed entries n).memRead a) := by
  rw [State.memRead_eq, State.memRead_eq]
  exact .ite (.ok rfl) (.error _ _)

theorem MicroAgree.memWrite (a : Addr) (v : Byte) :
    MicroAgree (Retimed entries) (s.memWrite a v) ((s.retimed entries n).memWrite a v) := by
  rw [State.memWrite_eq, State.memWrite_eq]
  exact .ite (.ok ⟨n, s.store_retimed n a v⟩) (.error _ _)

theorem MicroAgree.memWrite2 (a v : Addr) :
    MicroAgree (Retimed entries) (s.memWrite2 a v) ((s.retimed entries n).memWrite2 a v) :=
  .bind (.memWrite s n a _) fun | t, _, ⟨m, rfl⟩ => .memWrite t m _ _

theorem MicroAgree.memRead2 (a : Addr) : MicroAgree Eq (s.memRead2 a) ((s.retimed entries n).memRead2 a) :=
  .bind (.memRead s n a) fun | _, _, rfl => .bind (.memRead s n _) fun | _, _, rfl => .ok rfl

theorem MicroAgree.push16 (v : Addr) :
    MicroAgree (Retimed entries) (s.push16 v) ((s.retimed entries n).push16 v) :=
  .bind (.memWrite2 s n s.sp v) fun | _, _, ⟨m, rfl⟩ => .ok ⟨m, rfl⟩

theorem MicroAgree.pop16 :
    MicroAgree (fun p q => ∃ m, q = (p.1, p.2.retimed entries m)) s.pop16 (s.retimed entries n).pop16 :=
  .bind (.memRead2 { s with sp := s.sp + 2#16 } n _) fun | _, _, rfl => .ok ⟨n, rfl⟩

theorem MicroAgree.call (target : Addr) :
    MicroAgree (Retimed entries) (s.call target) ((s.retimed entries n).call target) :=
  .bind (.push16 s n s.pc) fun | _, _, ⟨m, rfl⟩ => .ok ⟨m, rfl⟩

theorem MicroAgree.ret : MicroAgree (Retimed entries) s.ret (s.retimed entries n).ret :=
  .bind (.pop16 s n) fun | _, _, ⟨m, rfl⟩ => .ok ⟨m, rfl⟩

theorem MicroAgree.readOperand (o : Operand8) :
    MicroAgree Eq (s.readOperand o) ((s.retimed entries n).readOperand o) := by
  cases o with
  | reg r => exact .ok rfl
  | atHL => exact .memRead s n s.hl

theorem MicroAgree.writeOperand (o : Operand8) (v : Byte) :
    MicroAgree (Retimed entries) (s.writeOperand o v) ((s.retimed entries n).writeOperand o v) := by
  cases o with
  | reg r => exact .ok ⟨n, s.setReg_retimed n r v⟩
  | atHL => exact .memWrite s n s.hl v

/-- Read an operand, write it back, then go on: INC, DEC, rotates, RES, SET. -/
theorem MicroAgree.modify {g : Byte → Byte} {k l : Byte → State → Micro State} (o : Operand8)
    (hk : ∀ v u m, MicroAgree (Retimed entries) (k v u) (l v (u.retimed entries m))) :
    MicroAgree (Retimed entries)
      (s.readOperand o >>= fun v => s.writeOperand o (g v) >>= k v)
      ((s.retimed entries n).readOperand o >>= fun v => (s.retimed entries n).writeOperand o (g v) >>= l v) :=
  .bind (.readOperand s n o)
    fun | v, _, rfl => .bind (.writeOperand s n o (g v)) fun | u, _, ⟨m, rfl⟩ => hk v u m

end

/-! ### The frame of an instruction -/

/-- The answers in two states that differ in CYCLES: both complete or neither does, and if they do, in the same state but for
these exceptions to the default CYCLES and the cost reported. -/
def ResultsAgree (entries : List CycleEntry) (r q : Result) : Prop :=
  (∀ t, r = .next t → ∃ m, q = .next (t.retimed entries m)) ∧ ∀ t, q = .next t → ∃ u, r = .next u

/-- CYCLES reaches nothing but the cost that the meaning reports. -/
def CostBlind (entries : List CycleEntry) (meaning : State → Result) : Prop :=
  ∀ s n, ResultsAgree entries (meaning s) (meaning (s.retimed entries n))

section
variable {entries : List CycleEntry}

theorem ResultsAgree.raise (e d : FatalError) (s t : State) : ResultsAgree entries (raise e s) (raise d t) :=
  ⟨fun _ h => absurd h (raise_ne_next e s _), fun _ h => absurd h (raise_ne_next d t _)⟩

theorem CostBlind.congr {f g : State → Result} (h : ∀ s, f s = g s) (hg : CostBlind entries g) : CostBlind entries f :=
  funext h ▸ hg

/-- The slot check does not read CYCLES, so the frame of an instruction hands on what holds of its operation. -/
theorem CostBlind.slot {table : Table} {opcode : Byte} {length : Nat} {op : State → Micro State}
    (hop : ∀ s n, MicroAgree (Retimed entries) (op s) (op (s.retimed entries n))) :
    CostBlind entries (execSlot table opcode length op) := by
  intro s n
  cases hm : s.cfg.models table opcode with
  | false =>
    rw [execSlot_unmodeled hm, execSlot_unmodeled (s := s.retimed entries n) hm]
    exact .raise _ _ _ _
  | true =>
    have hagree := hop (s.advance length) n
    generalize hx : op (s.advance length) = x at hagree
    generalize hy : op ((s.advance length).retimed entries n) = y at hagree
    cases hagree with
    | error =>
      rw [execSlot_bad hm hx, execSlot_bad (s := s.retimed entries n) hm hy]
      exact .raise _ _ _ _
    | ok h =>
      obtain ⟨m, rfl⟩ := h
      rw [execSlot_ok hm hx, execSlot_ok (s := s.retimed entries n) hm hy]
      exact ⟨fun | _, rfl => ⟨m, rfl⟩, fun _ _ => ⟨_, rfl⟩⟩

theorem unimplementedSlot_costBlind (table : Table) (opcode : Byte) :
    CostBlind entries (unimplementedSlot table opcode) := fun _ _ => .raise _ _ _ _

/-! ### Meanings that stand in one or a few slots -/

theorem noEffect_costBlind (opcode : Byte) : CostBlind entries (noEffect opcode) := .slot fun _ n => .cost n rfl

theorem adjust_costBlind {f : State → State} (hf : ∀ s n, f (s.retimed entries n) = (f s).retimed entries n)
    (opcode : Byte) : CostBlind entries (adjust f opcode) := .slot fun s n => .cost n (hf s n)

theorem rotateAcc_costBlind (k : RotOp) (opcode : Byte) : CostBlind entries (rotateAcc k opcode) :=
  .slot fun _ n => .cost n rfl

theorem storeAAt_costBlind (a : Addr) (length cycles : Nat) (opcode : Byte) :
    CostBlind entries (storeAAt a length cycles opcode) :=
  .slot fun s n => .bind (.memWrite s n a s.a) fun | _, _, ⟨m, rfl⟩ => .cost m rfl

theorem loadAAt_costBlind (a : Addr) (length cycles : Nat) (opcode : Byte) :
    CostBlind entries (loadAAt a length cycles opcode) :=
  .slot fun s n => .bind (.memRead s n a) fun | _, _, rfl => .cost n rfl

theorem storeAHighC_costBlind (opcode : Byte) : CostBlind entries (storeAHighC opcode) :=
  .slot fun s n => .bind (.memWrite s n (highPage s.c) s.a) fun | _, _, ⟨m, rfl⟩ => .cost m rfl

theorem loadAHighC_costBlind (opcode : Byte) : CostBlind entries (loadAHighC opcode) :=
  .slot fun s n => .bind (.memRead s n (highPage s.c)) fun | _, _, rfl => .cost n rfl

theorem storeSP_costBlind (n16 : Addr) (opcode : Byte) : CostBlind entries (storeSP n16 opcode) :=
  .slot fun s n => .bind (.memWrite2 s n n16 s.sp) fun | _, _, ⟨m, rfl⟩ => .cost m rfl

theorem ldSpHL_costBlind (opcode : Byte) : CostBlind entries (ldSpHL opcode) := .slot fun _ n => .cost n rfl

theorem ldHLSp_costBlind (e8 opcode : Byte) : CostBlind entries (ldHLSp e8 opcode) := .slot fun _ n => .cost n rfl

theorem addSp_costBlind (e8 opcode : Byte) : CostBlind entries (addSp e8 opcode) := .slot fun _ n => .cost n rfl

theorem jrAlways_costBlind (e8 opcode : Byte) : CostBlind entries (jrAlways e8 opcode) := .slot fun _ n => .cost n rfl

theorem jpAlways_costBlind (n16 : Addr) (opcode : Byte) : CostBlind entries (jpAlways n16 opcode) :=
  .slot fun _ n => .cost n rfl

theorem jpHL_costBlind (opcode : Byte) : CostBlind entries (jpHL opcode) := .slot fun _ n => .cost n rfl

theorem callAlways_costBlind (n16 : Addr) (opcode : Byte) : CostBlind entries (callAlways n16 opcode) :=
  .slot fun s n => .bind (.call s n n16) fun | _, _, ⟨m, rfl⟩ => .cost m rfl

theorem restart_costBlind (target : Addr) (opcode : Byte) : CostBlind entries (restart target opcode) :=
  .slot fun s n => .bind (.call s n target) fun | _, _, ⟨m, rfl⟩ => .cost m rfl

theorem retAlways_costBlind (opcode : Byte) : CostBlind entries (retAlways opcode) :=
  .slot fun s n => .bind (.ret s n) fun | _, _, ⟨m, rfl⟩ => .cost m rfl

/-! ### The forms of the primary table (30_encoding R128) -/

theorem ldForm_costBlind (x y : Operand8) : CostBlind entries (exec (ldForm x y)) :=
  match x, y with
  | .reg q, .reg r => .congr (exec_ldForm_reg q r) <| .slot fun s n => .cost n (s.setReg_retimed n q _)
  | .reg q, .atHL => .congr (exec_ldForm_fromHL q) <| .slot fun s n =>
      .bind (.memRead s n s.hl) fun | _, _, rfl => .cost n (s.setReg_retimed n q _)
  | .atHL, .reg r => .congr (exec_ldForm_toHL r) <| .slot fun s n =>
      .bind (.memWrite s n s.hl (s.reg r)) fun | _, _, ⟨m, rfl⟩ => .cost m rfl
  | .atHL, .atHL => unimplementedSlot_costBlind .primary 0x76#8

theorem ldImmForm_costBlind (o : Operand8) (n8 : Byte) : CostBlind entries (exec (ldImmForm o n8)) :=
  match o with
  | .reg r => .congr (exec_ldImmForm_reg r n8) <| .slot fun s n => .cost n (s.setReg_retimed n r n8)
  | .atHL => .congr (exec_ld_atHL_n8 n8) <| .slot fun s n =>
      .bind (.memWrite s n s.hl n8) fun | _, _, ⟨m, rfl⟩ => .cost m rfl

theorem storeAForm_costBlind (m : Mem16) : CostBlind entries (exec (storeAForm m)) :=
  .congr (exec_storeAForm m) <| .slot fun s n =>
    .bind (.memWrite s n (m.addr s) s.a) fun | u, _, ⟨k, rfl⟩ => .cost k (m.post_retimed u k)

theorem loadAForm_costBlind (m : Mem16) : CostBlind entries (exec (loadAForm m)) :=
  .congr (exec_loadAForm m) <| .slot fun s n =>
    .bind (.memRead s n (m.addr s)) fun | v, _, rfl => .cost n (m.post_retimed (s.setReg .a v) n)

theorem ld16Form_costBlind (r : Reg16) (n16 : Addr) : CostBlind entries (exec (ld16Form r n16)) :=
  .congr (exec_ld16Form r n16) <| .slot fun s n => .cost n (s.setReg16_retimed n r n16)

theorem inc16Form_costBlind (r : Reg16) : CostBlind entries (exec (inc16Form r)) :=
  .congr (exec_inc16Form r) <| .slot fun s n => .cost n (s.setReg16_retimed n r _)

theorem dec16Form_costBlind (r : Reg16) : CostBlind entries (exec (dec16Form r)) :=
  .congr (exec_dec16Form r) <| .slot fun s n => .cost n (s.setReg16_retimed n r _)

theorem addHLForm_costBlind (r : Reg16) : CostBlind entries (exec (addHLForm r)) :=
  .congr (exec_addHLForm r) <| .slot fun _ n => .cost n rfl

theorem aluForm_costBlind (k : AluOp) (o : Operand8) : CostBlind entries (exec (aluForm k o)) :=
  match o with
  | .reg r => .congr (exec_aluForm_reg k r) <| .slot fun s n => .cost n (alu_retimed s n k _)
  | .atHL => .congr (exec_aluForm_atHL k) <| .slot fun s n =>
      .bind (.memRead s n s.hl) fun | v, _, rfl => .cost n (alu_retimed s n k v)

theorem aluImmForm_costBlind (k : AluOp) (n8 : Byte) : CostBlind entries (exec (aluImmForm k n8)) :=
  .congr (exec_aluImmForm k n8) <| .slot fun s n => .cost n (alu_retimed s n k n8)

theorem incOperand_costBlind (o : Operand8) (opcode : Byte) : CostBlind entries (incOperand o opcode) :=
  .slot fun s n => .modify s n o fun _ _ m => .cost m rfl

theorem decOperand_costBlind (o : Operand8) (opcode : Byte) : CostBlind entries (decOperand o opcode) :=
  .slot fun s n => .modify s n o fun _ _ m => .cost m rfl

theorem incForm_costBlind (o : Operand8) : CostBlind entries (exec (incForm o)) :=
  match o with
  | .reg r => .congr (exec_incForm_reg r) (incOperand_costBlind _ _)
  | .atHL => incOperand_costBlind .atHL 0x34#8

theorem decForm_costBlind (o : Operand8) : CostBlind entries (exec (decForm o)) :=
  match o with
  | .reg r => .congr (exec_decForm_reg r) (decOperand_costBlind _ _)
  | .atHL => decOperand_costBlind .atHL 0x35#8

theorem accForm_costBlind (y : Nat) : CostBlind entries (exec (accForm y)) := by
  unfold accForm
  split
  · exact rotateAcc_costBlind .rlc _
  · exact rotateAcc_costBlind .rrc _
  · exact rotateAcc_costBlind .rl _
  · exact rotateAcc_costBlind .rr _
  · exact adjust_costBlind (fun _ _ => rfl) _
  · exact adjust_costBlind (fun _ _ => rfl) _
  · exact adjust_costBlind (fun _ _ => rfl) _
  · exact adjust_costBlind (fun _ _ => rfl) _

theorem pushForm_costBlind (r : Stk16) : CostBlind entries (exec (pushForm r)) :=
  .congr (exec_pushForm r) <| .slot fun s n => .bind (.push16 s n (s.stk r)) fun | _, _, ⟨m, rfl⟩ => .cost m rfl

theorem popForm_costBlind (r : Stk16) : CostBlind entries (exec (popForm r)) :=
  .congr (exec_popForm r) <| .slot fun s n =>
    .bind (.pop16 s n) fun | p, _, ⟨m, rfl⟩ => .cost m (p.2.setStk_retimed m r p.1)

theorem jrForm_costBlind (k : Cond) (e8 : Byte) : CostBlind entries (exec (jrForm k e8)) :=
  .congr (exec_jrForm k e8) <| .slot fun s n => .ite (b := k.holds s) (.cost n rfl) (.cost n rfl)

theorem jpForm_costBlind (k : Cond) (n16 : Addr) : CostBlind entries (exec (jpForm k n16)) :=
  .congr (exec_jpForm k n16) <| .slot fun s n => .ite (b := k.holds s) (.cost n rfl) (.cost n rfl)

theorem callForm_costBlind (k : Cond) (n16 : Addr) : CostBlind entries (exec (callForm k n16)) :=
  .congr (exec_callForm k n16) <| .slot fun s n =>
    .ite (b := k.holds s) (.bind (.call s n n16) fun | _, _, ⟨m, rfl⟩ => .cost m rfl) (.cost n rfl)

theorem retForm_costBlind (k : Cond) : CostBlind entries (exec (retForm k)) :=
  .congr (exec_retForm k) <| .slot fun s n =>
    .ite (b := k.holds s) (.bind (.ret s n) fun | _, _, ⟨m, rfl⟩ => .cost m rfl) (.cost n rfl)

theorem rstForm_costBlind (y : Nat) : CostBlind entries (exec (rstForm y)) := by
  unfold rstForm
  split <;> exact restart_costBlind _ _

/-! ### The extended table (30_encoding R129) -/

theorem rotateOperand_costBlind (k : RotOp) (o : Operand8) (opcode : Byte) :
    CostBlind entries (rotateOperand k o opcode) := .slot fun s n => .modify s n o fun _ _ m => .cost m rfl

theorem bitOperand_costBlind (b : Nat) (o : Operand8) (opcode : Byte) : CostBlind entries (bitOperand b o opcode) :=
  .slot fun s n => .bind (.readOperand s n o) fun | _, _, rfl => .cost n rfl

theorem resOperand_costBlind (b : Nat) (o : Operand8) (opcode : Byte) : CostBlind entries (resOperand b o opcode) :=
  .slot fun s n => .modify s n o fun _ _ m => .cost m rfl

theorem setOperand_costBlind (b : Nat) (o : Operand8) (opcode : Byte) : CostBlind entries (setOperand b o opcode) :=
  .slot fun s n => .modify s n o fun _ _ m => .cost m rfl

theorem execExtended_costBlind (ext : Byte) : CostBlind entries (execExtended ext) := by
  unfold execExtended
  dsimp only
  split
  · exact rotateOperand_costBlind _ _ _
  · exact bitOperand_costBlind _ _ _
  · exact resOperand_costBlind _ _ _
  · exact setOperand_costBlind _ _ _

/-- The byte after 0xCB is the same in both states. -/
theorem cbPrefix_costBlind : CostBlind entries (exec .cbPrefix) := by
  intro s n
  have hread : (s.retimed entries n).canRead ((s.retimed entries n).pc + 1#16) = s.canRead (s.pc + 1#16) := rfl
  rw [exec_cbPrefix, exec_cbPrefix, hread]
  split
  · exact execExtended_costBlind (s.byteAt (s.pc + 1#16)) s n
  · exact .raise _ _ _ _

/-! ### Every instruction -/

theorem decodeBlock0_costBlind (y z : Nat) (n8 : Byte) (n16 : Addr) :
    CostBlind entries (exec (decodeBlock0 y z n8 n16)) := by
  unfold decodeBlock0
  split
  · split
    · exact noEffect_costBlind _
    · exact storeSP_costBlind _ _
    · exact unimplementedSlot_costBlind _ _
    · exact jrAlways_costBlind _ _
    · exact jrForm_costBlind _ _
  · split
    · exact ld16Form_costBlind _ _
    · exact addHLForm_costBlind _
  · split
    · exact storeAForm_costBlind _
    · exact loadAForm_costBlind _
  · split
    · exact inc16Form_costBlind _
    · exact dec16Form_costBlind _
  · exact incForm_costBlind _
  · exact decForm_costBlind _
  · exact ldImmForm_costBlind _ _
  · exact accForm_costBlind _

theorem decodeBlock3_costBlind (y z : Nat) (n8 : Byte) (n16 : Addr) :
    CostBlind entries (exec (decodeBlock3 y z n8 n16)) := by
  unfold decodeBlock3
  split
  · split
    · exact storeAAt_costBlind _ _ _ _
    · exact addSp_costBlind _ _
    · exact loadAAt_costBlind _ _ _ _
    · exact ldHLSp_costBlind _ _
    · exact retForm_costBlind _
  · split
    · exact retAlways_costBlind _
    · exact retAlways_costBlind _
    · exact jpHL_costBlind _
    · exact ldSpHL_costBlind _
    · exact popForm_costBlind _
  · split
    · exact storeAHighC_costBlind _
    · exact storeAAt_costBlind _ _ _ _
    · exact loadAHighC_costBlind _
    · exact loadAAt_costBlind _ _ _ _
    · exact jpForm_costBlind _ _
  · split
    · exact jpAlways_costBlind _ _
    · exact cbPrefix_costBlind
    · exact unimplementedSlot_costBlind _ _
    · exact unimplementedSlot_costBlind _ _
    · exact unimplementedSlot_costBlind _ _
    · exact unimplementedSlot_costBlind _ _
    · exact noEffect_costBlind _
    · exact noEffect_costBlind _
  · split
    · exact unimplementedSlot_costBlind _ _
    · exact unimplementedSlot_costBlind _ _
    · exact unimplementedSlot_costBlind _ _
    · exact unimplementedSlot_costBlind _ _
    · exact callForm_costBlind _ _
  · split
    · exact callAlways_costBlind _ _
    · exact unimplementedSlot_costBlind _ _
    · exact unimplementedSlot_costBlind _ _
    · exact unimplementedSlot_costBlind _ _
    · exact pushForm_costBlind _
  · exact aluImmForm_costBlind _ _
  · exact rstForm_costBlind _

theorem decodePrimary_costBlind (op b1 b2 : Byte) : CostBlind entries (exec (decodePrimary op b1 b2)) := by
  unfold decodePrimary
  dsimp only
  split
  · exact decodeBlock0_costBlind _ _ _ _
  · exact ldForm_costBlind _ _
  · exact aluForm_costBlind _ _
  · exact decodeBlock3_costBlind _ _ _ _

theorem eq_cbPrefix_of_not_wellFormed {i : Instr} (hw : i.wellFormed = false) : i = .cbPrefix := by
  unfold Instr.wellFormed at hw
  split at hw
  · rfl
  · cases hw

/-- A whole instruction is the one its own bytes decode to, so the blocks of the opcode maps cover every instruction. -/
theorem exec_costBlind (i : Instr) : CostBlind entries (exec i) := by
  cases hw : i.wellFormed with
  | true =>
    obtain ⟨-, rfl, -⟩ | ⟨ext, -, rfl⟩ | ⟨op, b1, b2, -, -, rfl⟩ := decode_ok (decode_encode_append i hw [])
    · exact cbPrefix_costBlind
    · exact .congr (exec_decodeExtended ext) (execExtended_costBlind ext)
    · exact decodePrimary_costBlind op b1 b2
  | false => exact eq_cbPrefix_of_not_wellFormed hw ▸ cbPrefix_costBlind

end

/-- Settles O24: the other state is `s` retimed, with the same cost reported so far. -/
theorem cyclesReachOnlyTheReportedCost : Obligations.CyclesReachOnlyTheReportedCost :=
  fun i s _ => exec_costBlind i s s.instrCycles

end Sys2Proof.Machine
end
